-- ==== Sys2Proof/Word.lean ====
section
/-! DEFINITION. The word types of the block: bytes of the stream (R8, R9) and 12-bit event words (R80). -/

namespace Sys2Proof

/-- One byte of the stream, or one 8-bit register (R9, R22). -/
abbrev Byte := BitVec 8

/-- One event word `E[11:0]` (R80). -/
abbrev Word := BitVec 12

/-- A 16-bit value assembled from two bytes of a frame (R73, R74). -/
abbrev Half := BitVec 16

end Sys2Proof
end

