-- ==== Sys2Proof/Config.lean ====
section
/-! DEFINITION. The configuration: the parameter SYNC, the fixed sizes, and the platform's two open parameters. -/

namespace Sys2Proof

/-- The platform parameter LINE_ERROR_POLICY (92_eei_decisions.md D26, I19): what the receiver in front of the byte
channel does with a byte that had a line error. -/
inductive LineErrorPolicy where
  | asIoerr   -- the receiver sends `IOERR`
  | drop      -- the receiver drops the byte
  | pass      -- the receiver passes the received byte
  deriving DecidableEq, Repr, Inhabited

/-- The platform parameter RESULT_IRQ (92_eei_decisions.md D29, I20): whether `res_valid` drives an interrupt line. -/
inductive ResultIrq where
  | noLine            -- `none`
  | levelOnResValid   -- `level_on_res_valid`
  deriving DecidableEq, Repr, Inhabited

/-- `SYNC` of this hardware (R7).  The running block reads the copy `State.sync`, so that statements hold for every
value of the parameter (log entry 4). -/
def Config.sync : Byte := 0x59#8

/-- `FRAME_LEN`, `MARKER_LEN`, `PAYLOAD_LEN`, `READ_LEN` (R8). -/
def Config.frameLen : Nat := 9
def Config.markerLen : Nat := 2
def Config.payloadLen : Nat := 6
def Config.readLen : Nat := 7

/-- `DIST_LIMIT` of the consumer, outside the block (R10, R175). -/
def Config.distLimit : Nat := 12000

/-- LINE_ERROR_POLICY is left open by the spec (D26): a free constant, log entry 9. -/
opaque Config.lineErrorPolicy : LineErrorPolicy

/-- RESULT_IRQ is left open by the spec (D29): a free constant, log entry 10. -/
opaque Config.resultIrq : ResultIrq

end Sys2Proof
end

