-- ==== Sys2Proof/Syntax.lean ====
section
/-! DEFINITION. The five events of the block (R81), its "instructions". -/

namespace Sys2Proof

/-- One constructor per row of the opcode table (R81).  Only `BYTE` has an operand: `d`, an unsigned 8-bit value
used as it is (R82). -/
inductive Instr where
  | byte (d : Byte)
  | eos
  | ioerr
  | req
  | reset
  deriving DecidableEq, Repr

end Sys2Proof
end

