-- ==== Sys2Proof/WellFormed.lean ====
section
/-! DEFINITION. The fields of an event word and the checks that make a word an event: R80, R86. -/

namespace Sys2Proof

/-- The three fields of an event word: `ch = E[11:10]`, `kind = E[9:8]`, `data = E[7:0]` (R80). -/
structure EventFields where
  ch : BitVec 2
  kind : BitVec 2
  data : Byte
  deriving DecidableEq, Repr

/-- Why a word is reserved (R86). -/
inductive Reserved where
  | channel   -- `ch = 0b11`
  | kind      -- the byte channel with `kind = 0b11`, or another channel with `kind != 0b00`
  | data      -- a word of an event without operand whose `data` is not 0x00
  deriving DecidableEq, Repr

/-- The first check of R80 and R86 that the fields break, or `none` when they name an event. -/
def EventFields.reserved? (f : EventFields) : Option Reserved :=
  if f.ch = 0b11#2 then some .channel
  else if f.ch = 0b00#2 then
    if f.kind = 0b11#2 then some .kind
    else if f.kind ≠ 0b00#2 ∧ f.data ≠ 0x00#8 then some .data
    else none
  else if f.kind ≠ 0b00#2 then some .kind
  else if f.data ≠ 0x00#8 then some .data
  else none

/-- The fields of each event's word (R81). -/
def Instr.fields : Instr → EventFields
  | .byte d => ⟨0b00#2, 0b00#2, d⟩
  | .eos => ⟨0b00#2, 0b01#2, 0x00#8⟩
  | .ioerr => ⟨0b00#2, 0b10#2, 0x00#8⟩
  | .req => ⟨0b01#2, 0b00#2, 0x00#8⟩
  | .reset => ⟨0b10#2, 0b00#2, 0x00#8⟩

/-- An event is well formed when its fields break no check.  Every `Instr` is (`Laws/PerInstr.lean`); the checks
refuse *words*. -/
def Instr.wf (i : Instr) : Bool := i.fields.reserved?.isNone

end Sys2Proof
end

