-- ==== Sys2Proof/Machine/State.lean ====
section
/-! DEFINITION. The state of the block and of what its host offers it, the reasons a step can stop, and the state
at power-on. -/

namespace Sys2Proof.Machine

/-- The control state `st`, one name per 2-bit code (R22, R78): `IDLE = 0b00`, `SCAN = 0b01`, `PAYLOAD = 0b10`, and
the unreachable code `0b11`. -/
inductive Ctrl where
  | idle
  | scan
  | payload
  | reserved
  deriving DecidableEq, Repr

/-- The status code `res_status`, one name per 2-bit code (R77): `OK = 0b00`, `IO = 0b01`, `TRUNCATED = 0b10`, and the
code `0b11` that is never written. -/
inductive Status where
  | ok
  | io
  | truncated
  | reserved
  deriving DecidableEq, Repr

/-- One item of the byte channel (R50). -/
inductive Token where
  | byte (d : Byte)
  | eos
  | ioerr
  deriving DecidableEq, Repr

/-- What the block answered to the event the last step offered it (R15): taken, held, or no event was offered. -/
inductive Answer where
  | took
  | hold
  | quiet
  deriving DecidableEq, Repr

/-- One thing the host does (D2, D26): it offers an event word on the port of the word's channel, or a byte with a
line error reaches the receiver in front of the byte channel. -/
inductive HostMove where
  | offer (w : Word)
  | lineError (d : Byte)
  deriving DecidableEq, Repr

/-- Why a run stops with a fault.  The block itself never faults (R15). -/
inductive Fault where
  /-- Raised by a READER of the outputs (`Machine/Reader.lean`) that reads an output which is `none` (R13, I1 to I5);
  no step raises it.  Safe: the reader has no value there. -/
  | noneRead
  deriving DecidableEq, Repr

/-- Why a step is refused. -/
inductive Refusal where
  /-- Raised by `exec` for an instruction that has no meaning yet; no arm raises it now.  Safe. -/
  | notModelled (mnemonic : String)
  /-- Raised by `step` when the host offers a reserved word (R86, I6): the spec asks the model to refuse it.  Safe. -/
  | reservedWord (why : Reserved)
  /-- Raised by `step` in a state that breaks the invariants of R26, and by the meanings of `BYTE`, `EOS`, `IOERR` and
  `REQ` where `st = 0b11` or (`BYTE` in `PAYLOAD`) `cnt = 7` (R27, I11): the spec asks the model to refuse it.  Safe. -/
  | unreachableState
  deriving DecidableEq, Repr

/-- The registers of R22, the outputs of the last step, the parameter SYNC, and what the host offers. -/
@[ext]
structure State where
  /-- `st` (R22). -/
  st : Ctrl
  /-- `pend` (R22, R25). -/
  pend : Bool
  /-- `acc` (R22). -/
  acc : Byte
  /-- `cnt` (R22). -/
  cnt : BitVec 3
  /-- `buf[0..6]` = DL, DH, SL, SH, IT, SP, CK; an entry is `none` until written (R13, R22, R23, R37). -/
  buf : Vector (Option Byte) 7
  /-- `res_valid` (R22, R25). -/
  resValid : Bool
  /-- `res_status`; `none` until a decode has completed since reset (R13, R22). -/
  resStatus : Option Status
  /-- The strobe `ev_resync` in the outputs of the last step (R144); log entry 3. -/
  evResync : Bool
  /-- The answer of the last step (R15); log entry 3. -/
  answer : Answer
  /-- The parameter `SYNC` (R7): configuration, written by no event; log entry 4. -/
  sync : Byte
  /-- The host's: the tokens offered on the byte channel and not yet taken, head first (R50, R51). -/
  chan : List Token
  /-- The host's: `REQ` is being offered on the request port (R160). -/
  reqIn : Bool
  /-- The host's: `RESET` is being offered (R210, R240). -/
  resetIn : Bool
  /-- The host's: what it does at each coming step (D2); log entry 6. -/
  schedule : List (List HostMove)
  deriving DecidableEq, Repr

/-- Power-on (R241): the reset values of R35, with a host that offers nothing (log entry 6). -/
def State.reset : State where
  st := .idle
  pend := false
  acc := 0x00#8
  cnt := 0#3
  buf := Vector.replicate 7 none
  resValid := false
  resStatus := none
  evResync := false
  answer := .quiet
  sync := Config.sync
  chan := []
  reqIn := false
  resetIn := false
  schedule := []

end Sys2Proof.Machine
end

