-- ==== Sys2Proof/Machine/Flags.lean ====
section
/-! DEFINITION. The flags of R25, the ready outputs of R30 and the platform's interrupt line. -/

namespace Sys2Proof.Machine

/-- `req_ready = (st = IDLE)` (R30). -/
def State.reqReady (s : State) : Bool := s.st == .idle

/-- `byte_ready = (st = SCAN) or (st = PAYLOAD)` (R30). -/
def State.byteReady (s : State) : Bool := s.st == .scan || s.st == .payload

/-- `busy = not req_ready` (R30). -/
def State.busy (s : State) : Bool := !s.reqReady

/-- `pend <- 1` (R101). -/
def State.setPend (s : State) : State := { s with pend := true }

/-- `pend <- 0; acc <- 0x00`, always together in `SCAN` (R102, R104). -/
def State.clearScan (s : State) : State := { s with pend := false, acc := 0x00#8 }

/-- The interrupt line under a choice of RESULT_IRQ: none at all, or level-sensitive on `res_valid` (R212). -/
def State.irqUnder (s : State) : ResultIrq → Option Bool
  | .noLine => none
  | .levelOnResValid => some s.resValid

/-- The interrupt line of this platform (R212, D29; log entry 10). -/
def State.irq (s : State) : Option Bool := s.irqUnder Config.resultIrq

end Sys2Proof.Machine
end

