-- ==== Sys2Proof/Machine/Operands.lean ====
section
/-! DEFINITION. Codes, the payload buffer, the checksum and the assembled values. -/

namespace Sys2Proof.Machine

/-- The 2-bit code of `st` (R22, R78). -/
def Ctrl.code : Ctrl → BitVec 2
  | .idle => 0b00#2
  | .scan => 0b01#2
  | .payload => 0b10#2
  | .reserved => 0b11#2

/-- The 2-bit code of `res_status` (R77). -/
def Status.code : Status → BitVec 2
  | .ok => 0b00#2
  | .io => 0b01#2
  | .truncated => 0b10#2
  | .reserved => 0b11#2

/-- The names of the buffer bytes, in the order of R23. -/
inductive Field where
  | dl | dh | sl | sh | it | sp | ck
  deriving DecidableEq, Repr

/-- The buffer index of a named byte (R23). -/
def Field.index : Field → Fin 7
  | .dl => 0
  | .dh => 1
  | .sl => 2
  | .sh => 3
  | .it => 4
  | .sp => 5
  | .ck => 6

/-- The bytes of a list of entries, if none of them is `none` (R13: `none` is no number). -/
def bytesOf : List (Option Byte) → Option (List Byte)
  | [] => some []
  | none :: _ => none
  | some b :: rest => (bytesOf rest).map (b :: ·)

/-- `buf[0..n-1]`, if all of them are bytes. -/
def State.readBytes (s : State) (n : Nat) : Option (List Byte) := bytesOf (s.buf.toList.take n)

/-- `buf[i] <- d` (R121, R140, R141). -/
def State.bufWrite (s : State) (i : Nat) (d : Byte) : State :=
  { s with buf := s.buf.setIfInBounds i (some d) }

/-- The wrapping sum of bytes (R9, R11). -/
def sumBytes (l : List Byte) : Byte := l.foldr (· + ·) 0x00#8

/-- The sum modulo 256 of both marker bytes and the bytes that follow them (R71). -/
def checksum (sync : Byte) (payload : List Byte) : Byte := sync + sync + sumBytes payload

/-- `acc <- (acc + d) mod 256` (R101, R103, R121). -/
def State.accumulate (s : State) (d : Byte) : State := { s with acc := s.acc + d }

/-- `(zext_16(hi) << 8) | zext_16(lo)` (R55, R73, R74). -/
def assemble (hi lo : Byte) : Half := (hi.setWidth 16 <<< 8) ||| lo.setWidth 16

/-- The token an event of the byte channel is (R50, R80); `none` for the events of the other channels. -/
def tokenOf : Instr → Option Token
  | .byte d => some (.byte d)
  | .eos => some .eos
  | .ioerr => some .ioerr
  | .req => none
  | .reset => none

/-- The event a token is (R50, R80). -/
def Token.toInstr : Token → Instr
  | .byte d => .byte d
  | .eos => .eos
  | .ioerr => .ioerr

end Sys2Proof.Machine
end

