-- ==== Sys2Proof/Machine/Ops.lean ====
section
/-! DEFINITION. The step primitives: taking a token, holding an event, completing a decode, resynchronising,
starting a decode, resetting. -/

namespace Sys2Proof.Machine

/-- `take()`: the head token leaves the byte channel (R14, R51). -/
def State.take (s : State) : State := { s with chan := s.chan.tail }

/-- The outputs of a step that takes its event and is not a resync (R14, R144). -/
def State.took (s : State) : State := { s with evResync := false, answer := .took }

/-- A hold: the event is not taken and nothing changes; the strobe is 0 (R14, R15, R144). -/
def State.hold (s : State) : State := { s with evResync := false, answer := .hold }

/-- A step in which no event is offered: the block waits (R54, I16). -/
def State.wait (s : State) : State := { s with evResync := false, answer := .quiet }

/-- The requester stops offering the `REQ` that is being taken (R160). -/
def State.takeReq (s : State) : State := { s with reqIn := false }

/-- The reset driver stops offering the `RESET` that is being taken (R240). -/
def State.takeReset (s : State) : State := { s with resetIn := false }

/-- Alignment: `pend <- 0; cnt <- 0; st <- PAYLOAD` (R103). -/
def State.enterPayload (s : State) : State :=
  { s with
    st := .payload
    pend := false
    cnt := 0#3 }

/-- `cnt <- cnt + 1` (R121). -/
def State.countByte (s : State) : State := { s with cnt := s.cnt + 1#3 }

/-- `complete(status)`, the block's trap entry (R206): the decode ends and its status is recorded. -/
def State.complete (s : State) (status : Status) : State :=
  { s with
    st := .idle
    pend := false
    acc := 0x00#8
    cnt := 0#3
    resValid := true
    resStatus := some status }

/-- The work registers as every scan starts with them: `SCAN`, `pend = 0`, `acc = 0x00`, `cnt = 0` (R141, R160). -/
def State.freshScan (s : State) : State :=
  { s with
    st := .scan
    pend := false
    acc := 0x00#8
    cnt := 0#3 }

/-- `resync()` without its `take` and its buffer write: back to scanning, with the strobe at 1 for this step
(R141, R144). -/
def State.resync (s : State) : State := { s.freshScan with evResync := true }

/-- The acceptance of a `REQ`, which also is the way on from every completion (R160, R207). -/
def State.startDecode (s : State) : State := { s.freshScan with resValid := false }

/-- Every register of R22 at its reset value (R35, R240).  The parameter and the host's side stay. -/
def State.resetRegisters (s : State) : State :=
  { s with
    st := .idle
    pend := false
    acc := 0x00#8
    cnt := 0#3
    buf := Vector.replicate 7 none
    resValid := false
    resStatus := none }

/-- An error token: held in `IDLE`, else taken, and the open decode completes with `status` (R201, R202).  The
unreachable `st = 0b11` is refused (R27). -/
def State.endDecode (s : State) (status : Status) : Host.Outcome State Fault Refusal :=
  match s.st with
  | .idle => .next s.hold
  | .scan => .next (s.take.took.complete status)
  | .payload => .next (s.take.took.complete status)
  | .reserved => .refused .unreachableState

end Sys2Proof.Machine
end

