-- ==== Sys2Proof/Machine/Payload.lean ====
section
/-! DEFINITION. The payload reader: `BYTE` in `PAYLOAD` with `cnt <= 5` (R121). -/

namespace Sys2Proof.Machine

/-- R121: `take(); buf[cnt] <- d; acc <- (acc + d) mod 256; cnt <- cnt + 1`. -/
def State.payloadStore (s : State) (d : Byte) : State :=
  ((s.take.took.bufWrite s.cnt.toNat d).accumulate d).countByte

end Sys2Proof.Machine
end

