-- ==== Sys2Proof/Machine/Scanner.lean ====
section
/-! DEFINITION. The header scanner: `BYTE` in `SCAN` (R100 to R104). -/

namespace Sys2Proof.Machine

/-- R101: the first sync byte of a possible pair. -/
def State.scanFirstSync (s : State) : State := (s.take.took.accumulate s.sync).setPend

/-- R102: a non-sync byte with nothing pending. -/
def State.scanNoise (s : State) : State := s.take.took.clearScan

/-- R103: the second sync byte, alignment. -/
def State.scanAlign (s : State) : State := (s.take.took.accumulate s.sync).enterPayload

/-- R104: a non-sync byte after a pending sync byte; the accumulator is cleared with the flag (90_conflicts.md C1). -/
def State.scanBreak (s : State) : State := s.take.took.clearScan

/-- The four cases of a byte in `SCAN` (R100). -/
def State.scanByte (s : State) (d : Byte) : State :=
  if d = s.sync then
    if s.pend then s.scanAlign else s.scanFirstSync
  else
    if s.pend then s.scanBreak else s.scanNoise

end Sys2Proof.Machine
end

