-- ==== Sys2Proof/Machine/Validator.lean ====
section
/-! DEFINITION. The validator and resync controller: `BYTE` in `PAYLOAD` with `cnt = 6` (R140, R141). -/

namespace Sys2Proof.Machine

/-- R140: the checksum byte matches; the decode completes with `OK`. -/
def State.acceptFrame (s : State) (d : Byte) : State := (s.take.took.bufWrite 6 d).complete .ok

/-- R141: the checksum byte does not match; the frame is discarded and the scan starts again. -/
def State.rejectFrame (s : State) (d : Byte) : State := (s.take.took.bufWrite 6 d).resync

/-- The judgement in the step that takes the 7th byte (R122, R140, R141). -/
def State.judgeFrame (s : State) (d : Byte) : State :=
  if d = s.acc then s.acceptFrame d else s.rejectFrame d

end Sys2Proof.Machine
end

