-- ==== Sys2Proof/Machine/Channel.lean ====
section
/-! DEFINITION. The meanings of the byte channel's events: `BYTE`, `EOS`, `IOERR`.  A meaning is for the event that
is offered: for a token, the head of the channel. -/

namespace Sys2Proof.Machine

/-- `BYTE d`: dispatch by the state before the step (R100).  `st = 0b11` and `cnt = 7` are unreachable and refused
(R27). -/
def execByte (d : Byte) (s : State) : Host.Outcome State Fault Refusal :=
  match s.st with
  | .idle => .next s.hold
  | .scan => .next (s.scanByte d)
  | .payload =>
    if s.cnt.toNat ≤ 5 then .next (s.payloadStore d)
    else if s.cnt = 6#3 then .next (s.judgeFrame d)
    else .refused .unreachableState
  | .reserved => .refused .unreachableState

/-- `EOS`: the stream has ended; the open decode completes with `TRUNCATED` (R202). -/
def execEos (s : State) : Host.Outcome State Fault Refusal := s.endDecode .truncated

/-- `IOERR`: a read has failed; the open decode completes with `IO` (R201). -/
def execIoerr (s : State) : Host.Outcome State Fault Refusal := s.endDecode .io

end Sys2Proof.Machine
end

