-- ==== Sys2Proof/Machine/Control.lean ====
section
/-! DEFINITION. The meanings of `REQ` (request port) and `RESET` (reset input). -/

namespace Sys2Proof.Machine

/-- `REQ`: taken in `IDLE` only, where it starts a decode; it takes no token (R160, R161).  The unreachable
`st = 0b11` is refused (R27). -/
def execReq (s : State) : Host.Outcome State Fault Refusal :=
  match s.st with
  | .idle => .next s.took.takeReq.startDecode
  | .scan => .next s.hold
  | .payload => .next s.hold
  | .reserved => .refused .unreachableState

/-- `RESET`: always taken; every register takes its reset value and the byte channel is not touched (R240). -/
def execReset (s : State) : Host.Outcome State Fault Refusal :=
  .next s.took.takeReset.resetRegisters

end Sys2Proof.Machine
end

