-- ==== Sys2Proof/Machine/Dispatch.lean ====
section
/-! DEFINITION. The dispatch of an event to its meaning, one arm per row of the opcode table. -/

namespace Sys2Proof.Machine

def exec (i : Instr) (s : State) : Host.Outcome State Fault Refusal :=
  match i with
  | .byte d => Sys2Proof.Machine.execByte d s
  | .eos => Sys2Proof.Machine.execEos s
  | .ioerr => Sys2Proof.Machine.execIoerr s
  | .req => Sys2Proof.Machine.execReq s
  | .reset => Sys2Proof.Machine.execReset s

end Sys2Proof.Machine
end

