-- ==== Sys2Proof/Decode.lean ====
section
/-! DEFINITION. Decoding of event words, total (R83), and the encoder (R80, R81); the opcode map as the table
of R81. -/

namespace Sys2Proof

/-- The fields of a word (R80). -/
def wordFields (w : Word) : EventFields :=
  ⟨w.extractLsb' 10 2, w.extractLsb' 8 2, w.extractLsb' 0 8⟩

/-- A word from its fields (R80). -/
def fieldsWord (f : EventFields) : Word := (f.ch ++ f.kind ++ f.data : BitVec (2 + 2 + 8))

/-- The event that fields without a fault name (R80). -/
def fieldsInstr (f : EventFields) : Instr :=
  if f.ch = 0b00#2 then
    if f.kind = 0b00#2 then .byte f.data
    else if f.kind = 0b01#2 then .eos
    else .ioerr
  else if f.ch = 0b01#2 then .req
  else .reset

/-- Decoding is total: a word is one of the five events, or reserved for a named reason (R83, R86). -/
def decode (w : Word) : Except Reserved Instr :=
  match (wordFields w).reserved? with
  | some why => .error why
  | none => .ok (fieldsInstr (wordFields w))

/-- The event word of an event (R81). -/
def encode (i : Instr) : Word := fieldsWord i.fields

/-- A row of the opcode map: the words with `E & mask = pattern` are the events `event E[7:0]` (R81). -/
structure OpcodeRow where
  pattern : Word
  mask : Word
  event : Byte → Instr

/-- `(E & mask) = match` (R83). -/
def OpcodeRow.selects (r : OpcodeRow) (w : Word) : Bool := w &&& r.mask == r.pattern

/-- The opcode map, row by row as R81 prints it. -/
def opcodeMap : List OpcodeRow :=
  [ ⟨0x000#12, 0xF00#12, fun d => .byte d⟩,
    ⟨0x100#12, 0xFFF#12, fun _ => .eos⟩,
    ⟨0x200#12, 0xFFF#12, fun _ => .ioerr⟩,
    ⟨0x400#12, 0xFFF#12, fun _ => .req⟩,
    ⟨0x800#12, 0xFFF#12, fun _ => .reset⟩ ]

/-- The 12-bit word of a number, where it is one.  The host gives the table's bits in whole bytes; the four bits above
the word are 0 (log entry 18). -/
def tableWord? (w : Nat) : Option Word := if w < 4096 then some (BitVec.ofNat 12 w) else none

/-- What the decoder reads from the opcode table's word `w`. -/
def decodeTableWord (_nbits w : Nat) : Option Instr :=
  match tableWord? w with
  | none => none
  | some e =>
    match decode e with
    | .ok i => some i
    | .error _ => none

end Sys2Proof
end

