-- ==== Sys2Proof/Machine/Invariant.lean ====
section
/-! DEFINITION. The invariants of R26, as a check on one state. -/

namespace Sys2Proof.Machine

/-- R26 (a). -/
def State.idleClean (s : State) : Bool :=
  !(s.st == .idle) || (s.pend == false && s.acc == 0x00#8 && s.cnt == 0#3)

/-- R26 (b): in `SCAN`, `cnt = 0` and `acc = (pend * SYNC) mod 256`. -/
def State.scanSeeded (s : State) : Bool :=
  !(s.st == .scan) || (s.cnt == 0#3 && s.acc == (if s.pend then s.sync else 0x00#8))

/-- R26 (c): in `PAYLOAD`, nothing is pending, `cnt <= 6`, `buf[0..cnt-1]` are bytes and `acc` is the sum of the
markers and of them. -/
def State.payloadSummed (s : State) : Bool :=
  !(s.st == .payload) ||
    (s.pend == false && decide (s.cnt.toNat ≤ 6) &&
      (match s.readBytes s.cnt.toNat with
        | some bytes => s.acc == checksum s.sync bytes
        | none => false))

/-- R26 (d). -/
def State.codesUsed (s : State) : Bool :=
  !(s.st == .reserved) && !(s.cnt == 7#3) && !(s.resStatus == some .reserved)

/-- R26 (e). -/
def State.resultClosed (s : State) : Bool := !s.resValid || (s.st == .idle && s.resStatus.isSome)

/-- R26 (f): after `OK`, `buf[0..6]` are bytes and `buf[6]` is the checksum of the others. -/
def State.resultSummed (s : State) : Bool :=
  !(s.resValid && s.resStatus == some .ok) ||
    (match s.readBytes 6, s.buf[6] with
      | some bytes, some ck => ck == checksum s.sync bytes
      | _, _ => false)

/-- All of R26.  A state that breaks it is unreachable, and a step from it is refused (R27). -/
def State.consistent (s : State) : Bool :=
  s.idleClean && s.scanSeeded && s.payloadSummed && s.codesUsed && s.resultClosed && s.resultSummed

end Sys2Proof.Machine
end

