-- ==== Sys2Proof/Machine/Fetch.lean ====
section
/-! DEFINITION. What comes before an event's meaning in a step: the host's moves reach the ports, and one event is
selected (R210). -/

namespace Sys2Proof.Machine

/-- The host offers an event on its port (R50, R160, R210, R240).  A `REQ` offered while one is held is the same
offer: it is not counted twice (R160; log entry 7). -/
def State.offered (s : State) : Instr → State
  | .byte d => { s with chan := s.chan ++ [.byte d] }
  | .eos => { s with chan := s.chan ++ [.eos] }
  | .ioerr => { s with chan := s.chan ++ [.ioerr] }
  | .req => { s with reqIn := true }
  | .reset => { s with resetIn := true }

/-- The tokens the receiver puts on the channel for a byte with a line error (D26, I19). -/
def lineErrorTokens : LineErrorPolicy → Byte → List Token
  | .asIoerr, _ => [.ioerr]
  | .drop, _ => []
  | .pass, d => [.byte d]

/-- One move of the host.  A reserved word names no event and is refused (R86). -/
def State.arrive (s : State) : HostMove → Except Reserved State
  | .offer w =>
    match decode w with
    | .error why => .error why
    | .ok i => .ok (s.offered i)
  | .lineError d => .ok { s with chan := s.chan ++ lineErrorTokens Config.lineErrorPolicy d }

/-- The moves the host makes before one step, in order. -/
def State.arriveAll (s : State) : List HostMove → Except Reserved State
  | [] => .ok s
  | m :: rest =>
    match s.arrive m with
    | .error why => .error why
    | .ok t => t.arriveAll rest

/-- The host's next entry in the schedule reaches the ports; past its end the host does nothing (log entry 6). -/
def State.deliver (s : State) : Except Reserved State :=
  match s.schedule with
  | [] => .ok s
  | moves :: rest => { s with schedule := rest }.arriveAll moves

/-- The one event a step offers to the block: RESET if it is offered, otherwise the one ready event (R210); where no
offered event is ready, the one that is held (R14). -/
def State.selected (s : State) : Option Instr :=
  if s.resetIn then some .reset
  else if s.reqReady then
    if s.reqIn then some .req else s.chan.head?.map Token.toInstr
  else
    match s.chan with
    | token :: _ => some token.toInstr
    | [] => if s.reqIn then some .req else none

/-- What a step is about to do. -/
inductive Fetched where
  /-- The step is refused. -/
  | refuse (r : Refusal)
  /-- No event is offered; the state after the step. -/
  | quiet (s : State)
  /-- The event to run, and the state to run it in. -/
  | run (i : Instr) (s : State)
  deriving DecidableEq, Repr

/-- Everything in a step that comes before the event's meaning (R14, R27, R86, R210). -/
def State.fetch (s : State) : Fetched :=
  if s.consistent then
    match s.deliver with
    | .error why => .refuse (.reservedWord why)
    | .ok t =>
      match t.selected with
      | none => .quiet t.wait
      | some i => .run i t
  else .refuse .unreachableState

/-- The ports and the schedule changed so that the event word of number `w` is the next one, alone, to be offered.  A
number that is no 12-bit word is answered with a reserved word (log entry 18). -/
def State.placeWord (s : State) (w : Nat) : State :=
  { s with
    chan := []
    reqIn := false
    resetIn := false
    schedule := [.offer ((tableWord? w).getD 0xC00#12)] :: s.schedule }

end Sys2Proof.Machine
end

