-- ==== Sys2Proof/Machine/Step.lean ====
section
/-! DEFINITION. One step of the machine (R14, R15). -/

namespace Sys2Proof.Machine

/-- One step: the host's moves reach the ports, and the block answers the one event selected (R14, R210). -/
def step (s : State) : Host.Outcome State Fault Refusal :=
  match s.fetch with
  | .refuse r => .refused r
  | .quiet t => .next t
  | .run i t => exec i t

/-- `s` with the event word `w` as the one the next step offers to the block. -/
def State.withFetchWord (s : State) (_nbits w : Nat) : State := s.placeWord w

end Sys2Proof.Machine
end

