-- ==== Sys2Proof/Machine/Outputs.lean ====
section
/-! DEFINITION. The result port and the frame outputs, functions of the state (R31 to R33, R73 to R76, R162).  An output
that is not meaningful is `none` (R13). -/

namespace Sys2Proof.Machine

/-- The frame outputs are meaningful: `res_valid = 1` and `res_status = OK` (R31). -/
def State.frameShown (s : State) : Bool := s.resValid && s.resStatus == some .ok

/-- The output of one buffer byte (R31, R32). -/
def State.field (s : State) (f : Field) : Option Byte := if s.frameShown then s.buf[f.index] else none

/-- The byte outputs of R32. -/
def State.distLo (s : State) : Option Byte := s.field .dl
def State.distHi (s : State) : Option Byte := s.field .dh
def State.strLo (s : State) : Option Byte := s.field .sl
def State.strHi (s : State) : Option Byte := s.field .sh
def State.itime (s : State) : Option Byte := s.field .it
def State.spare (s : State) : Option Byte := s.field .sp
def State.cksum (s : State) : Option Byte := s.field .ck

/-- The marker bytes: `mark0 = mark1 = SYNC` (R32). -/
def State.mark0 (s : State) : Option Byte := if s.frameShown then some s.sync else none
def State.mark1 (s : State) : Option Byte := if s.frameShown then some s.sync else none

/-- A 16-bit output from the outputs of its two bytes. -/
def assembleOut : Option Byte → Option Byte → Option Half
  | some hi, some lo => some (assemble hi lo)
  | _, _ => none

/-- `distance[15:0]` (R73). -/
def State.distance (s : State) : Option Half := assembleOut s.distHi s.distLo

/-- `strength[15:0]` (R74). -/
def State.strength (s : State) : Option Half := assembleOut s.strHi s.strLo

/-- The bytes of a frame as one bus: the first byte in bits 7..0, each later byte in the next eight (R76). -/
def busOf (bytes : List Byte) : BitVec 72 :=
  bytes.foldr (fun b rest => (rest <<< 8) ||| b.setWidth 72) 0#72

/-- `frame[71:0]` (R76). -/
def State.frame (s : State) : Option (BitVec 72) :=
  if s.frameShown then (s.readBytes 7).map (fun bytes => busOf (s.sync :: s.sync :: bytes)) else none

/-- The states of the source's state machine that the block's states stand for (R24, R139). -/
inductive Phase where
  | waiting    -- `IDLE`, no result: the source has no such state
  | scanning   -- SCANNING
  | aligned    -- ALIGNED
  | reading    -- between ALIGNED and PAYLOAD_READ
  | valid      -- VALID
  | failed     -- a propagated I/O or truncation error
  | noPhase    -- a state the block never reaches
  deriving DecidableEq, Repr

/-- R24's mapping; `PAYLOAD_READ` and `INVALID` are no states of the block. -/
def State.phase (s : State) : Phase :=
  match s.st with
  | .idle =>
    if s.resValid then
      (if s.resStatus = some .ok then .valid
       else if s.resStatus = some .io ∨ s.resStatus = some .truncated then .failed else .noPhase)
    else .waiting
  | .scan => .scanning
  | .payload => if s.cnt = 0#3 then .aligned else if s.cnt = 7#3 then .noPhase else .reading
  | .reserved => .noPhase

end Sys2Proof.Machine
end

