-- ==== Sys2Proof/Machine/Reader.lean ====
section
/-! DEFINITION. The host's reads of the result port, and the consumer of R175 (outside the block).  Reading an output
that is `none` is a fault of the reader (R13, I1 to I5). -/

namespace Sys2Proof.Machine

/-- A read of an output (R13). -/
def readOutput {α : Type} : Option α → Host.Outcome α Fault Refusal
  | some v => .next v
  | none => .fault .noneRead

/-- A read of `res_status`: it is meaningful only while `res_valid = 1` (I3). -/
def State.readStatus (s : State) : Host.Outcome Status Fault Refusal :=
  readOutput (if s.resValid then s.resStatus else none)

/-- What the source's consumer does with a result (R175). -/
inductive ConsumerAction where
  | forward (distance : Half)
  | drop
  | retry
  | abort
  deriving DecidableEq, Repr

/-- The consumer forwards a distance iff it is below `DIST_LIMIT` (R175; R166: the block does not judge it). -/
def consumeDistance (d : Half) : ConsumerAction :=
  if d.toNat < Config.distLimit then .forward d else .drop

/-- The consumer's reaction to a completion: on `Io` it aborts, on `Truncated` it retries (R175).  Before a completion
there is nothing to react to. -/
def State.consume (s : State) : Option ConsumerAction :=
  if s.resValid then
    match s.resStatus with
    | some .ok => s.distance.map consumeDistance
    | some .io => some .abort
    | some .truncated => some .retry
    | some .reserved => none
    | none => none
  else none

end Sys2Proof.Machine
end

