-- ==== Sys2Proof/Machine/Stimulus.lean ====
section
/-! DEFINITION. The stimulus language: events, pseudo-instructions and their text (R89, R90). -/

namespace Sys2Proof.Machine

/-- A line of a stimulus: one of the five events (R89) or a pseudo-instruction (R90). -/
inductive Line where
  | event (i : Instr)
  | bytes (bs : List Byte)
  | frame (dl dh sl sh it sp : Byte)
  | badframe (dl dh sl sh it sp : Byte)
  deriving DecidableEq, Repr

/-- The bytes of a frame with the given checksum byte, in wire order (R70). -/
def wireBytes (sync : Byte) (payload : List Byte) (ck : Byte) : List Byte := sync :: sync :: (payload ++ [ck])

/-- The expansion of a line, with the SYNC the block is configured with (R90). -/
def Line.expand (sync : Byte) : Line → List Instr
  | .event i => [i]
  | .bytes bs => bs.map .byte
  | .frame dl dh sl sh it sp =>
    (wireBytes sync [dl, dh, sl, sh, it, sp] (checksum sync [dl, dh, sl, sh, it, sp])).map .byte
  | .badframe dl dh sl sh it sp =>
    (wireBytes sync [dl, dh, sl, sh, it, sp] (checksum sync [dl, dh, sl, sh, it, sp] + 0x01#8)).map .byte

/-- A program is a list of lines offered to the block in order, one event at a time (R89). -/
def scheduleOf (sync : Byte) (lines : List Line) : List (List HostMove) :=
  (lines.flatMap (Line.expand sync)).map (fun i => [.offer (encode i)])

/-- Why a text line is no line of the language. -/
inductive LineError where
  | mnemonic
  | operand
  | operandCount
  deriving DecidableEq, Repr

/-- The value of a hexadecimal digit. -/
def hexDigit (c : Char) : Option Nat :=
  if '0' ≤ c ∧ c ≤ '9' then some (c.toNat - '0'.toNat)
  else if 'a' ≤ c ∧ c ≤ 'f' then some (c.toNat - 'a'.toNat + 10)
  else if 'A' ≤ c ∧ c ≤ 'F' then some (c.toNat - 'A'.toNat + 10)
  else none

/-- A decimal number, digits read from the left onto `n`. -/
def decimalFrom (n : Nat) : List Char → Option Nat
  | [] => some n
  | c :: rest => if '0' ≤ c ∧ c ≤ '9' then decimalFrom (10 * n + (c.toNat - '0'.toNat)) rest else none

/-- A byte operand: `0xNN`, or decimal 0..255 (R89; log entry 15). -/
def parseByte : List Char → Option Byte
  | ['0', 'x', h, l] =>
    match hexDigit h, hexDigit l with
    | some a, some b => some (BitVec.ofNat 8 (16 * a + b))
    | _, _ => none
  | [] => none
  | digits =>
    match decimalFrom 0 digits with
    | some n => if n < 256 then some (BitVec.ofNat 8 n) else none
    | none => none

def isBlank (c : Char) : Bool := c == ' ' || c == '\t'

/-- The text without blanks at either end. -/
def trimBlanks (cs : List Char) : List Char := ((cs.dropWhile isBlank).reverse.dropWhile isBlank).reverse

/-- The pieces of a text between commas. -/
def splitCommas : List Char → List (List Char)
  | [] => [[]]
  | c :: rest =>
    if c == ',' then [] :: splitCommas rest
    else
      match splitCommas rest with
      | first :: more => (c :: first) :: more
      | [] => [[c]]

/-- All operands of a line, each a byte, separated by commas; an empty text has none. -/
def parseOperands (cs : List Char) : Option (List Byte) :=
  if (trimBlanks cs).isEmpty then some []
  else (splitCommas cs).mapM (fun piece => parseByte (trimBlanks piece))

/-- The line of a mnemonic and its operands (R89, R90). -/
def buildLine (mnemonic : List Char) (operands : List Byte) : Except LineError Line :=
  if mnemonic = ['B', 'Y', 'T', 'E'] then
    match operands with
    | [d] => .ok (.event (.byte d))
    | _ => .error .operandCount
  else if mnemonic = ['E', 'O', 'S'] then
    if operands.isEmpty then .ok (.event .eos) else .error .operandCount
  else if mnemonic = ['I', 'O', 'E', 'R', 'R'] then
    if operands.isEmpty then .ok (.event .ioerr) else .error .operandCount
  else if mnemonic = ['R', 'E', 'Q'] then
    if operands.isEmpty then .ok (.event .req) else .error .operandCount
  else if mnemonic = ['R', 'E', 'S', 'E', 'T'] then
    if operands.isEmpty then .ok (.event .reset) else .error .operandCount
  else if mnemonic = ['B', 'Y', 'T', 'E', 'S'] then
    if operands.isEmpty then .error .operandCount else .ok (.bytes operands)
  else if mnemonic = ['F', 'R', 'A', 'M', 'E'] then
    match operands with
    | [dl, dh, sl, sh, it, sp] => .ok (.frame dl dh sl sh it sp)
    | _ => .error .operandCount
  else if mnemonic = ['B', 'A', 'D', 'F', 'R', 'A', 'M', 'E'] then
    match operands with
    | [dl, dh, sl, sh, it, sp] => .ok (.badframe dl dh sl sh it sp)
    | _ => .error .operandCount
  else .error .mnemonic

/-- One line of text: a `;` starts a comment, mnemonic first and case-insensitive (R89).  A line that is empty but for a
comment is no event. -/
def parseLine (text : List Char) : Except LineError (Option Line) :=
  let code := trimBlanks (text.takeWhile (· != ';'))
  if code.isEmpty then .ok none
  else
    let mnemonic := (code.takeWhile (fun c => !isBlank c)).map Char.toUpper
    match parseOperands (code.dropWhile (fun c => !isBlank c)) with
    | none => .error .operand
    | some operands =>
      match buildLine mnemonic operands with
      | .error why => .error why
      | .ok line => .ok (some line)

end Sys2Proof.Machine
end

