-- ==== Sys2Proof/Safety.lean ====
section
/-! DEFINITION. The terms the statements use: runs, the invariants of R26 in words, the tokens of a move, frames on the wire,
and what two states share. -/

namespace Sys2Proof.Machine

/-- `n` steps of the machine. -/
abbrev runSteps (n : Nat) (s : State) : Host.Outcome State Fault Refusal := Sys2Proof.core.run n s

/-- The state passes the model's check of R26. -/
abbrev State.Inv (s : State) : Prop := s.consistent = true

/-- R26 in the spec's words, with sums of natural numbers reduced modulo 256. -/
structure State.MeetsR26 (s : State) : Prop where
  /-- (a) -/
  idleClean : s.st = .idle → s.pend = false ∧ s.acc = 0x00#8 ∧ s.cnt = 0#3
  /-- (b) -/
  scanSeeded : s.st = .scan → s.cnt = 0#3 ∧ s.acc.toNat = ((if s.pend then 1 else 0) * s.sync.toNat) % 256
  /-- (c) -/
  payloadSummed : s.st = .payload → s.pend = false ∧ s.cnt.toNat ≤ 6 ∧
    ∃ bytes : List Byte, bytes.length = s.cnt.toNat ∧
      (∀ (i : Nat) (h : i < 7), i < s.cnt.toNat → s.buf[i] = bytes[i]?) ∧
      s.acc.toNat = (2 * s.sync.toNat + (bytes.map BitVec.toNat).sum) % 256
  /-- (d) -/
  codesUsed : s.st ≠ .reserved ∧ s.cnt ≠ 7#3 ∧ s.resStatus ≠ some .reserved
  /-- (e) -/
  resultClosed : s.resValid = true → s.st = .idle ∧ s.resStatus ≠ none
  /-- (f) -/
  resultSummed : s.resValid = true → s.resStatus = some .ok →
    ∃ (bytes : List Byte) (ck : Byte), bytes.length = 6 ∧
      (∀ (i : Nat) (h : i < 7), i < 6 → s.buf[i] = bytes[i]?) ∧ s.buf[6] = some ck ∧
      ck.toNat = (2 * s.sync.toNat + (bytes.map BitVec.toNat).sum) % 256

/-- The host offers nothing, now or later, but what stands on the byte channel. -/
abbrev State.onlyChannel (s : State) : Prop := s.reqIn = false ∧ s.resetIn = false ∧ s.schedule = []

/-- The tokens that a move of the host puts on the byte channel (R50, D26): the token of the offered word, if it is one, or
those of the receiver's policy. -/
def HostMove.tokens : HostMove → List Token
  | .offer w => ((decode w).toOption.bind tokenOf).toList
  | .lineError d => lineErrorTokens Config.lineErrorPolicy d

/-- The parameter, the two other ports and the schedule are the same in both states. -/
abbrev sameHost (s t : State) : Prop :=
  t.sync = s.sync ∧ t.reqIn = s.reqIn ∧ t.resetIn = s.resetIn ∧ t.schedule = s.schedule

/-- The registers of R22 are the same in both states. -/
abbrev sameRegisters (s t : State) : Prop :=
  t.st = s.st ∧ t.pend = s.pend ∧ t.acc = s.acc ∧ t.cnt = s.cnt ∧ t.buf = s.buf ∧
    t.resValid = s.resValid ∧ t.resStatus = s.resStatus

/-- The frame outputs are the same in both states (R32, R76). -/
def sameFrameOutputs (s t : State) : Prop :=
  (∀ f, t.field f = s.field f) ∧ t.mark0 = s.mark0 ∧ t.mark1 = s.mark1 ∧ t.distance = s.distance ∧
    t.strength = s.strength ∧ t.frame = s.frame

/-- Every frame output is `none` (R31). -/
def State.noFrame (s : State) : Prop :=
  (∀ f, s.field f = none) ∧ s.mark0 = none ∧ s.mark1 = none ∧ s.distance = none ∧ s.strength = none ∧
    s.frame = none

/-- The seven bytes that follow the marker pair (R70). -/
structure WireFrame where
  dl : Byte
  dh : Byte
  sl : Byte
  sh : Byte
  it : Byte
  sp : Byte
  ck : Byte
  deriving DecidableEq, Repr

/-- The nine tokens of a frame in wire order (R70). -/
def WireFrame.tokens (f : WireFrame) (sync : Byte) : List Token :=
  [.byte sync, .byte sync, .byte f.dl, .byte f.dh, .byte f.sl, .byte f.sh, .byte f.it, .byte f.sp, .byte f.ck]

/-- The checksum byte is the sum of the other eight bytes, modulo 256 (R71, R72). -/
abbrev WireFrame.Valid (f : WireFrame) (sync : Byte) : Prop :=
  f.ck.toNat = (sync.toNat + sync.toNat + f.dl.toNat + f.dh.toNat + f.sl.toNat + f.sh.toNat + f.it.toNat +
    f.sp.toNat) % 256

/-- The result port shows `OK` and this frame (R32, R73, R74, R162). -/
def State.Shows (s : State) (f : WireFrame) : Prop :=
  s.st = .idle ∧ s.resValid = true ∧ s.resStatus = some .ok ∧
    s.distance.map BitVec.toNat = some (256 * f.dh.toNat + f.dl.toNat) ∧
    s.strength.map BitVec.toNat = some (256 * f.sh.toNat + f.sl.toNat) ∧
    s.itime = some f.it ∧ s.spare = some f.sp ∧ s.cksum = some f.ck

end Sys2Proof.Machine
end

