-- ==== Sys2Proof/Certificates/Slice0/Obligations.lean ====
section
/-! DEFINITION. The statements for the provers.

In a statement, a next state with `answer = .took` is R15's `Next`, one with `answer = .hold` is R15's `Hold`, and
`answer = .quiet` means that no event was offered.  That a state holds the answer and the strobe of the step that led to it is
the model's form of R15's outputs (log entry 3).  `schedule`, `chan`, `reqIn` and `resetIn` are what the host offers, in the
model's own form (log entry 6), and the field `sync` is the parameter SYNC (log entry 4). -/

open Sys2Proof Sys2Proof.Machine

/-! ### Encoding -/

/-- R80 to R83: decoding the word of an event gives the event back, with every byte as it was, and a word that decodes to an
event is that event's word, so every event has one word and no bit of a word is dropped. -/
def Obligations.DecodeAndEncodeAgree : Prop :=
  (∀ i : Instr, decode (encode i) = .ok i) ∧ ∀ (w : Word) (i : Instr), decode w = .ok i → encode i = w

/-- R81, R82, R83: the decoder gives the event of the first row of the opcode map that selects the word, with the data
field as its operand, and nothing where no row does; the rows do not overlap. -/
def Obligations.DecodeFollowsOpcodeMap : Prop :=
  (∀ w : Word, (decode w).toOption =
      (opcodeMap.find? (fun r => r.selects w)).map (fun r => r.event (w.extractLsb' 0 8))) ∧
    opcodeMap.Pairwise (fun r q => ∀ w : Word, ¬ (r.selects w = true ∧ q.selects w = true))

/-- R86: which words are reserved and how many they are.  The last clause says that a step is refused when the host offers one.
That the whole step is refused then, whatever stands before and after the reserved word, a RESET included, is the model's choice,
and so is that a state which breaks R26 is refused as such first (log entry 14). -/
def Obligations.ReservedWordsRefused : Prop :=
  (∀ w : Word, (decode w).toOption = none ↔
      (w.extractLsb' 10 2 = 0b11#2 ∨
        (w.extractLsb' 10 2 = 0b00#2 ∧ w.extractLsb' 8 2 = 0b11#2) ∨
        (w.extractLsb' 10 2 = 0b00#2 ∧ (w.extractLsb' 8 2 = 0b01#2 ∨ w.extractLsb' 8 2 = 0b10#2) ∧
          w.extractLsb' 0 8 ≠ 0x00#8) ∨
        ((w.extractLsb' 10 2 = 0b01#2 ∨ w.extractLsb' 10 2 = 0b10#2) ∧ w.extractLsb' 0 10 ≠ 0#10))) ∧
    ((List.range 16).map (fun hi => ((List.range 256).filter (fun lo =>
      (decode (BitVec.ofNat 12 (256 * hi + lo))).toOption.isNone)).length)).sum = 3836 ∧
    (∀ (s : State) (w : Word) (before after : List HostMove) (rest : List (List HostMove)), s.Inv →
      s.schedule = (before ++ .offer w :: after) :: rest → (decode w).toOption = none →
      ∃ why, step s = .refused (.reservedWord why))

/-- R81: words written out from the opcode map. -/
def Obligations.SampleWordsDecode : Prop :=
  decode 0b000001011001#12 = .ok (.byte 0x59#8) ∧ decode 0b000011111111#12 = .ok (.byte 0xFF#8) ∧
    decode 0b000100000000#12 = .ok .eos ∧ decode 0b001000000000#12 = .ok .ioerr ∧
    decode 0b010000000000#12 = .ok .req ∧ decode 0b100000000000#12 = .ok .reset

/-! ### The step -/

/-- R14, R83: where nothing stands on the ports and the host's next move offers one word that decodes to an event, the
step is that event's meaning, in the state with the schedule advanced and the event on its port; and placing a word with
`withFetchWord` brings that about. -/
def Obligations.StepRunsDecodedEvent : Prop :=
  (∀ (s : State) (w : Word) (i : Instr) (rest : List (List HostMove)), s.Inv → s.chan = [] → s.reqIn = false →
      s.resetIn = false → s.schedule = [.offer w] :: rest → decode w = .ok i →
      step s = exec i ({ s with schedule := rest }.offered i)) ∧
    (∀ (s : State) (nbits w : Nat) (i : Instr), s.Inv → decodeTableWord nbits w = some i →
      step (s.withFetchWord nbits w) = exec i ({ s with chan := [], reqIn := false, resetIn := false }.offered i))

/-- R210: which of the offered events a step gives to the block.  RESET comes first and the other offers stay; a REQ and
a token are never both takeable. -/
def Obligations.StepPriority : Prop :=
  (∀ s u : State, s.Inv → s.deliver = .ok u →
      (u.resetIn = true → step s = exec .reset u ∧ ∃ t, exec .reset u = .next t ∧ t.st = .idle ∧ t.answer = .took ∧
        t.resetIn = false ∧ t.chan = u.chan ∧ t.reqIn = u.reqIn) ∧
      (u.resetIn = false → u.st = .idle → u.reqIn = true → step s = exec .req u) ∧
      (∀ k rest, u.resetIn = false → u.st ≠ .idle → u.chan = k :: rest → step s = exec k.toInstr u) ∧
      (∀ k rest, u.resetIn = false → u.st = .idle → u.reqIn = false → u.chan = k :: rest →
        step s = exec k.toInstr u ∧ exec k.toInstr u = .next u.hold) ∧
      (u.resetIn = false → u.st ≠ .idle → u.chan = [] → u.reqIn = true →
        step s = exec .req u ∧ exec .req u = .next u.hold)) ∧
    ∀ s : State, ¬ (s.reqReady = true ∧ s.byteReady = true)

/-- R54: where nothing is offered, the block waits and nothing changes but the outputs of the step. -/
def Obligations.NothingOfferedBlockWaits : Prop :=
  ∀ s : State, s.Inv → s.chan = [] → s.reqIn = false → s.resetIn = false → s.schedule.headD [] = [] →
    step s = .next { s with evResync := false, answer := .quiet, schedule := s.schedule.tail }

/-- R51, R52, R53, R58: what the schedule's head offers goes to the channel's end, and of the channel that gives a step takes
nothing, or exactly the head, and the head only while `byte_ready = 1`. -/
def Obligations.TokensTakenInOrder : Prop :=
  ∀ s t : State, step s = .next t → ∃ u : State, s.deliver = .ok u ∧
    u.chan = s.chan ++ (s.schedule.headD []).flatMap HostMove.tokens ∧
    (t.chan = u.chan ∨ (s.byteReady = true ∧ ∃ k, u.chan = k :: t.chan))

/-- R14, R15, R30, R52: in a state that meets R26 every event is answered by a next state: it is taken where its
port is ready, and held, with no register and no port changed, where it is not.  No meaning and no step faults. -/
def Obligations.EveryEventTakenOrHeld : Prop :=
  (∀ (s : State) (i : Instr), s.Inv → ∃ t, exec i s = .next t ∧
      ((t.answer = .took ∧ (i = .reset ∨ (i = .req ∧ s.reqReady = true) ∨
          ((tokenOf i).isSome = true ∧ s.byteReady = true))) ∨
        (t.answer = .hold ∧ t.evResync = false ∧ sameRegisters s t ∧ sameHost s t ∧ t.chan = s.chan ∧
          ((i = .req ∧ s.reqReady = false) ∨ ((tokenOf i).isSome = true ∧ s.byteReady = false))))) ∧
    ∀ (s : State) (i : Instr) (f : Fault), exec i s ≠ .fault f ∧ step s ≠ .fault f

/-! ### Header scanner -/

/-- R101. -/
def Obligations.ByteFirstSync : Prop :=
  ∀ (s : State) (d : Byte), s.st = .scan → s.pend = false → d = s.sync →
    exec (.byte d) s =
        .next { s with
          pend := true
          acc := s.acc + s.sync
          chan := s.chan.tail
          evResync := false
          answer := .took } ∧
      (s.Inv → s.acc + s.sync = s.sync)

/-- R102. -/
def Obligations.ByteNoise : Prop :=
  ∀ (s : State) (d : Byte), s.st = .scan → s.pend = false → d ≠ s.sync →
    exec (.byte d) s =
        .next { s with
          pend := false
          acc := 0x00#8
          chan := s.chan.tail
          evResync := false
          answer := .took } ∧
      (s.Inv → s.acc = 0x00#8)

/-- R103. -/
def Obligations.ByteSecondSyncAligns : Prop :=
  ∀ (s : State) (d : Byte), s.st = .scan → s.pend = true → d = s.sync →
    exec (.byte d) s =
        .next { s with
          st := .payload
          pend := false
          acc := s.acc + s.sync
          cnt := 0#3
          chan := s.chan.tail
          evResync := false
          answer := .took } ∧
      (s.Inv → (s.acc + s.sync).toNat = (2 * s.sync.toNat) % 256)

/-- R104: the accumulator is cleared together with the pending flag (90_conflicts.md C1). -/
def Obligations.ByteBreaksPair : Prop :=
  ∀ (s : State) (d : Byte), s.st = .scan → s.pend = true → d ≠ s.sync →
    exec (.byte d) s =
      .next { s with
        pend := false
        acc := 0x00#8
        chan := s.chan.tail
        evResync := false
        answer := .took }

/-- R105: the only way into `PAYLOAD` is a sync byte taken from the head of the channel in `SCAN` with a sync byte pending, and
the accumulator then is twice SYNC. -/
def Obligations.AlignmentNeedsTwoSyncs : Prop :=
  ∀ s t : State, step s = .next t → s.st ≠ .payload → t.st = .payload →
    s.st = .scan ∧ s.pend = true ∧ (∃ u : State, s.deliver = .ok u ∧ u.chan = .byte s.sync :: t.chan) ∧
      t.acc.toNat = (2 * s.sync.toNat) % 256 ∧ t.cnt = 0#3 ∧ t.pend = false

/-- R107: over bytes in which no two consecutive ones equal SYNC (a pending sync byte counted first), the block never
leaves `SCAN` and never completes, however long it runs. -/
def Obligations.NoSyncPairNoFrame : Prop :=
  ∀ (s : State) (bytes : List Byte), s.Inv → s.st = .scan → s.onlyChannel → s.chan = bytes.map .byte →
    (∀ k : Nat, ¬ (((if s.pend then [s.sync] else []) ++ bytes)[k]? = some s.sync ∧
      ((if s.pend then [s.sync] else []) ++ bytes)[k + 1]? = some s.sync)) →
    ∀ n : Nat, ∃ t, runSteps n s = .next t ∧ t.st = .scan ∧ t.resValid = false

/-! ### Payload reader -/

/-- R121. -/
def Obligations.PayloadByteStored : Prop :=
  ∀ (s : State) (d : Byte), s.st = .payload → s.cnt.toNat ≤ 5 →
    ∃ t, exec (.byte d) s = .next t ∧
      (∀ (i : Nat) (h : i < 7), t.buf[i] = if i = s.cnt.toNat then some d else s.buf[i]) ∧
      t.acc.toNat = (s.acc.toNat + d.toNat) % 256 ∧ t.cnt.toNat = s.cnt.toNat + 1 ∧
      t.st = s.st ∧ t.pend = s.pend ∧ t.resValid = s.resValid ∧ t.resStatus = s.resStatus ∧
      t.chan = s.chan.tail ∧ t.evResync = false ∧ t.answer = .took ∧ sameHost s t ∧
      (s.Inv → t.noFrame ∧ ∃ bytes : List Byte, bytes.length = s.cnt.toNat + 1 ∧
        (∀ (i : Nat) (h : i < 7), i < s.cnt.toNat + 1 → t.buf[i] = bytes[i]?) ∧
        t.acc.toNat = (2 * s.sync.toNat + (bytes.map BitVec.toNat).sum) % 256)

/-! ### Validator and resync controller -/

/-- R140. -/
def Obligations.ChecksumMatchCompletes : Prop :=
  ∀ (s : State) (d : Byte), s.st = .payload → s.cnt = 6#3 → d = s.acc →
    ∃ t, exec (.byte d) s = .next t ∧ t.st = .idle ∧ t.pend = false ∧ t.acc = 0x00#8 ∧ t.cnt = 0#3 ∧
      t.resValid = true ∧ t.resStatus = some .ok ∧
      (∀ (i : Nat) (h : i < 7), t.buf[i] = if i = 6 then some d else s.buf[i]) ∧
      t.chan = s.chan.tail ∧ t.evResync = false ∧ t.answer = .took ∧ sameHost s t ∧
      (∀ f, t.field f = t.buf[f.index]) ∧
      (s.Inv → (∃ bytes : List Byte, bytes.length = 6 ∧ (∀ (i : Nat) (h : i < 7), i < 6 → t.buf[i] = bytes[i]?) ∧
          d.toNat = (2 * s.sync.toNat + (bytes.map BitVec.toNat).sum) % 256) ∧
        t.frame ≠ none ∧ t.distance ≠ none ∧ t.strength ≠ none)

/-- R141. -/
def Obligations.ChecksumMismatchResyncs : Prop :=
  ∀ (s : State) (d : Byte), s.st = .payload → s.cnt = 6#3 → d ≠ s.acc →
    ∃ t, exec (.byte d) s = .next t ∧ t.st = .scan ∧ t.pend = false ∧ t.acc = 0x00#8 ∧ t.cnt = 0#3 ∧
      t.resValid = s.resValid ∧ t.resStatus = s.resStatus ∧
      (∀ (i : Nat) (h : i < 7), t.buf[i] = if i = 6 then some d else s.buf[i]) ∧
      t.chan = s.chan.tail ∧ t.evResync = true ∧ t.answer = .took ∧ sameHost s t ∧
      (s.Inv → t.resValid = false ∧ t.noFrame)

/-- R144: the strobe is 1 after exactly the steps that take R141, and nothing reads it. -/
def Obligations.ResyncStrobe : Prop :=
  (∀ s t : State, step s = .next t →
      (t.evResync = true ↔ ∃ (u : State) (d : Byte) (rest : List Token), s.deliver = .ok u ∧ u.resetIn = false ∧
        u.chan = .byte d :: rest ∧ s.st = .payload ∧ s.cnt = 6#3 ∧ d ≠ s.acc)) ∧
    ∀ (s : State) (b : Bool), step { s with evResync := b } = step s

/-- R145: the step of a mismatch writes no status and shows no result; the decode stays open. -/
def Obligations.MismatchIsNoOutcome : Prop :=
  ∀ s t : State, step s = .next t → t.evResync = true →
    t.st = .scan ∧ t.resValid = false ∧ t.resStatus = s.resStatus ∧ t.noFrame

/-- R147: from a fresh scan, a stream that starts with a well-formed frame gives that frame after exactly its nine
bytes. -/
def Obligations.FrameIsDecoded : Prop :=
  ∀ (s : State) (f : WireFrame) (rest : List Token), s.Inv → s.st = .scan → s.pend = false → s.onlyChannel →
    s.chan = f.tokens s.sync ++ rest → f.Valid s.sync →
    ∃ t, runSteps 9 s = .next t ∧ t.Shows f ∧ t.chan = rest

/-- R148: a frame whose checksum byte is wrong is skipped: after its nine bytes the block scans afresh, with no
result. -/
def Obligations.CorruptedFrameSkipped : Prop :=
  ∀ (s : State) (f : WireFrame) (rest : List Token), s.Inv → s.st = .scan → s.pend = false → s.onlyChannel →
    s.chan = f.tokens s.sync ++ rest → ¬ f.Valid s.sync →
    ∃ t, runSteps 9 s = .next t ∧ t.st = .scan ∧ t.pend = false ∧ t.acc = 0x00#8 ∧ t.cnt = 0#3 ∧
      t.resValid = false ∧ t.evResync = true ∧ t.chan = rest ∧ t.onlyChannel

/-- R165: two decodes over two consecutive frames give the two frames in order; the first takes nine bytes and the
second starts with the second frame's first byte. -/
def Obligations.ConsecutiveFramesInOrder : Prop :=
  ∀ (s : State) (f g : WireFrame) (rest : List Token), s.Inv → s.st = .idle → s.reqIn = false → s.resetIn = false →
    s.chan = f.tokens s.sync ++ g.tokens s.sync ++ rest → f.Valid s.sync → g.Valid s.sync →
    s.schedule = [.offer (encode .req)] :: (List.replicate 9 [] ++ [[.offer (encode .req)]]) →
    ∃ t u, runSteps 10 s = .next t ∧ t.Shows f ∧ t.chan = g.tokens s.sync ++ rest ∧
      runSteps 20 s = .next u ∧ u.Shows g ∧ u.chan = rest

/-! ### Request and result -/

/-- R160. -/
def Obligations.ReqStartsDecode : Prop :=
  (∀ s : State, s.st = .idle → ∃ t, exec .req s = .next t ∧
      t = { s with
        st := .scan
        pend := false
        acc := 0x00#8
        cnt := 0#3
        resValid := false
        reqIn := false
        evResync := false
        answer := .took } ∧
      t.noFrame) ∧
    ∀ s : State, s.st = .scan ∨ s.st = .payload →
      exec .req s = .next { s with evResync := false, answer := .hold }

/-- R123, R143, R161, R200: an open decode ends only by RESET, or by the token at the head of the channel: `EOS` with
`TRUNCATED`, `IOERR` with `IO`, or a matching checksum byte with `OK`. -/
def Obligations.DecodeEndsOnlyByOutcomeOrReset : Prop :=
  ∀ s t : State, step s = .next t → s.st ≠ .idle → t.st = .idle →
    ∃ u, s.deliver = .ok u ∧
      ((u.resetIn = true ∧ t.resValid = false) ∨
        (t.resValid = true ∧ ∃ k, u.chan = k :: t.chan ∧
          ((k = .eos ∧ t.resStatus = some .truncated) ∨ (k = .ioerr ∧ t.resStatus = some .io) ∨
            (k = .byte s.acc ∧ s.st = .payload ∧ s.cnt = 6#3 ∧ t.resStatus = some .ok))))

/-- R163: while `IDLE`, no event but REQ and RESET changes the result, and no step without one of them does. -/
def Obligations.ResultStableWhileIdle : Prop :=
  (∀ (s t : State) (i : Instr), s.st = .idle → i ≠ .req → i ≠ .reset → exec i s = .next t →
      t.resValid = s.resValid ∧ t.resStatus = s.resStatus ∧ sameFrameOutputs s t) ∧
    ∀ s t u : State, s.st = .idle → s.deliver = .ok u → u.reqIn = false → u.resetIn = false → step s = .next t →
      t.resValid = s.resValid ∧ t.resStatus = s.resStatus ∧ sameFrameOutputs s t ∧ t.st = .idle ∧ t.chan = u.chan

/-- R52: no token is taken in `IDLE`: every token is held there. -/
def Obligations.TokensHeldWhileIdle : Prop :=
  ∀ (s : State) (d : Byte), s.st = .idle →
    exec (.byte d) s = .next { s with evResync := false, answer := .hold } ∧
      exec .eos s = .next { s with evResync := false, answer := .hold } ∧
      exec .ioerr s = .next { s with evResync := false, answer := .hold }

/-- R31: the frame outputs are meaningful only after an `OK` completion; in every other state each is `none`. -/
def Obligations.FrameOutputsOnlyAfterOk : Prop :=
  ∀ s : State, ¬ (s.resValid = true ∧ s.resStatus = some .ok) → s.noFrame

/-- R32: what the byte outputs are when they are meaningful. -/
def Obligations.FrameFieldOutputs : Prop :=
  ∀ s : State, s.resValid = true → s.resStatus = some .ok →
    s.distLo = s.buf[0] ∧ s.distHi = s.buf[1] ∧ s.strLo = s.buf[2] ∧ s.strHi = s.buf[3] ∧ s.itime = s.buf[4] ∧
      s.spare = s.buf[5] ∧ s.cksum = s.buf[6] ∧ s.mark0 = some s.sync ∧ s.mark1 = some s.sync

/-- R73: the low byte of the distance comes first; the value is unsigned. -/
def Obligations.DistanceValue : Prop :=
  (∀ (s : State) (dl dh : Byte), s.resValid = true → s.resStatus = some .ok → s.buf[0] = some dl → s.buf[1] = some dh →
      ∃ d : Half, s.distance = some d ∧ d = (dh.setWidth 16 <<< 8) ||| dl.setWidth 16 ∧
        d.toNat = 256 * dh.toNat + dl.toNat ∧ d.toNat ≤ 65535) ∧
    assemble 0x0A#8 0x00#8 = 2560#16

/-- R74: the signal strength, in the same way. -/
def Obligations.StrengthValue : Prop :=
  (∀ (s : State) (sl sh : Byte), s.resValid = true → s.resStatus = some .ok → s.buf[2] = some sl → s.buf[3] = some sh →
      ∃ d : Half, s.strength = some d ∧ d = (sh.setWidth 16 <<< 8) ||| sl.setWidth 16 ∧
        d.toNat = 256 * sh.toNat + sl.toNat) ∧
    assemble 0x01#8 0x00#8 = 256#16

/-- R76: wire byte `k` stands at bits `[8k+7 : 8k]` of the frame bus. -/
def Obligations.FrameBusLayout : Prop :=
  ∀ (s : State) (b : Vector Byte 7), s.resValid = true → s.resStatus = some .ok →
    (∀ (i : Nat) (h : i < 7), s.buf[i] = some b[i]) →
    ∃ f : BitVec 72, s.frame = some f ∧ f.extractLsb' 0 8 = s.sync ∧ f.extractLsb' 8 8 = s.sync ∧
      (∀ (i : Nat) (h : i < 7), f.extractLsb' (8 * (i + 2)) 8 = b[i]) ∧
      s.distance = some (assemble b[1] b[0]) ∧ s.strength = some (assemble b[3] b[2]) ∧ s.itime = some b[4] ∧
      s.spare = some b[5]

/-- R33: the frame outputs change only at an `OK` completion, at the acceptance of a REQ and at RESET, and are `none`
while a decode is in progress. -/
def Obligations.FrameOutputsChangeOnly : Prop :=
  (∀ s t : State, step s = .next t → ¬ sameFrameOutputs s t →
      (s.st = .payload ∧ t.st = .idle ∧ t.resValid = true ∧ t.resStatus = some .ok) ∨
        (s.st = .idle ∧ t.st = .scan ∧ t.noFrame) ∨
        (∃ u, s.deliver = .ok u ∧ u.resetIn = true ∧ t.noFrame)) ∧
    ∀ s : State, s.Inv → s.st ≠ .idle → s.noFrame

/-- R146: no register value of one decode changes the result of the next.  Two states in `IDLE` that take a REQ and have the
same parameter and the same host, whatever their buffers and last results, give runs that agree on everything but bytes of the
buffer that are not output and a status that is not meaningful. -/
def Obligations.EarlierDecodeHasNoInfluence : Prop :=
  ∀ s t : State, s.Inv → t.Inv → s.st = .idle → t.st = .idle → s.reqIn = true → sameHost s t → t.chan = s.chan →
    ∀ n : Nat,
      (∃ a b, runSteps (n + 1) s = .next a ∧ runSteps (n + 1) t = .next b ∧
        b.st = a.st ∧ b.pend = a.pend ∧ b.acc = a.acc ∧ b.cnt = a.cnt ∧ b.resValid = a.resValid ∧
        (a.resValid = true → b.resStatus = a.resStatus) ∧ sameFrameOutputs a b ∧ b.evResync = a.evResync ∧
        b.answer = a.answer ∧ b.chan = a.chan ∧ sameHost a b) ∨
      (∃ r, runSteps (n + 1) s = .refused r ∧ runSteps (n + 1) t = .refused r)

/-- I17, R202, R201: an open decode whose channel holds an `EOS` or an `IOERR` has completed after at most as many steps as the
channel has tokens. -/
def Obligations.DecodeCompletesByEndOfStream : Prop :=
  ∀ s : State, s.Inv → s.st ≠ .idle → s.onlyChannel → (.eos ∈ s.chan ∨ .ioerr ∈ s.chan) →
    ∃ n t, n ≤ s.chan.length ∧ runSteps n s = .next t ∧ t.st = .idle ∧ t.resValid = true

/-! ### Error outcomes -/

/-- R201. -/
def Obligations.IoerrCompletes : Prop :=
  (∀ s : State, s.st = .scan ∨ s.st = .payload → ∃ t, exec .ioerr s = .next t ∧
      t = { s with
        st := .idle
        pend := false
        acc := 0x00#8
        cnt := 0#3
        resValid := true
        resStatus := some .io
        chan := s.chan.tail
        evResync := false
        answer := .took } ∧
      t.noFrame) ∧
    ∀ s : State, s.st = .idle → exec .ioerr s = .next { s with evResync := false, answer := .hold }

/-- R202. -/
def Obligations.EosCompletes : Prop :=
  (∀ s : State, s.st = .scan ∨ s.st = .payload → ∃ t, exec .eos s = .next t ∧
      t = { s with
        st := .idle
        pend := false
        acc := 0x00#8
        cnt := 0#3
        resValid := true
        resStatus := some .truncated
        chan := s.chan.tail
        evResync := false
        answer := .took } ∧
      t.noFrame) ∧
    ∀ s : State, s.st = .idle → exec .eos s = .next { s with evResync := false, answer := .hold }

/-- R206: every step in which a result appears is a completion: one token taken, the work registers cleared, the status
recorded, the buffer kept but for the accepted checksum byte, the configuration and the other ports as the host left
them. -/
def Obligations.CompletionIsPrecise : Prop :=
  ∀ s t : State, step s = .next t → s.resValid = false → t.resValid = true →
    t.st = .idle ∧ t.pend = false ∧ t.acc = 0x00#8 ∧ t.cnt = 0#3 ∧ t.reqReady = true ∧ t.byteReady = false ∧
      t.evResync = false ∧
      ∃ u k, s.deliver = .ok u ∧ u.chan = k :: t.chan ∧ sameHost u t ∧
        ((k = .ioerr ∧ t.resStatus = some .io ∧ t.buf = s.buf) ∨
          (k = .eos ∧ t.resStatus = some .truncated ∧ t.buf = s.buf) ∨
          (∃ d, k = .byte d ∧ t.resStatus = some .ok ∧
            ∀ (i : Nat) (h : i < 7), t.buf[i] = if i = 6 then some d else s.buf[i]))

/-! ### Reset -/

/-- R240: RESET is taken in every state, writes every register and touches neither the channel nor a held REQ nor the
parameter; a step takes it before any other event. -/
def Obligations.ResetTakenInEveryState : Prop :=
  (∀ s : State, exec .reset s =
      .next { s with
        st := .idle
        pend := false
        acc := 0x00#8
        cnt := 0#3
        buf := Vector.replicate 7 none
        resValid := false
        resStatus := none
        resetIn := false
        evResync := false
        answer := .took }) ∧
    ∀ s u : State, s.Inv → s.deliver = .ok u → u.resetIn = true → step s = exec .reset u

/-- R35, R241: the registers and the outputs at power-on and after every RESET. -/
def Obligations.ResetState : Prop :=
  ∀ t : State, (t = State.reset ∨ ∃ s, exec .reset s = .next t) →
    t.st = .idle ∧ t.pend = false ∧ t.acc = 0x00#8 ∧ t.cnt = 0#3 ∧ (∀ (i : Nat) (h : i < 7), t.buf[i] = none) ∧
      t.resValid = false ∧ t.resStatus = none ∧ t.reqReady = true ∧ t.byteReady = false ∧ t.busy = false ∧ t.noFrame ∧
      t.evResync = false

/-! ### Invariants -/

/-- R26: the invariants hold at reset. -/
def Obligations.ResetMeetsR26 : Prop := State.reset.MeetsR26

/-- R26: every step keeps the invariants. -/
def Obligations.StepKeepsR26 : Prop := ∀ s t : State, s.MeetsR26 → step s = .next t → t.MeetsR26

/-- R26: the model's check says what R26 says. -/
def Obligations.CheckSaysR26 : Prop := ∀ s : State, s.Inv ↔ s.MeetsR26

/-- R27: a state that breaks R26 is not stepped.  That a RESET is refused there too, against R240's "any state" (log entry 5), and
that this is the reason given where a reserved word is offered too (log entry 14), is the model's choice. -/
def Obligations.BrokenStateRefused : Prop := ∀ s : State, ¬ s.MeetsR26 → step s = .refused .unreachableState

/-- R7, R61: no step changes the parameter SYNC. -/
def Obligations.SyncIsConstant : Prop := ∀ s t : State, step s = .next t → t.sync = s.sync

/-- R30: the ready outputs, and that exactly one of them is 1 in every state that meets R26. -/
def Obligations.ReadyOutputs : Prop :=
  (∀ s : State, (s.reqReady = true ↔ s.st = .idle) ∧ (s.byteReady = true ↔ (s.st = .scan ∨ s.st = .payload)) ∧
      s.busy = !s.reqReady) ∧
    ∀ s : State, s.Inv → s.reqReady = !s.byteReady

/-! ### Frames: what an event leaves unchanged -/

/-- The frame of `BYTE` (R22 column "written by", R101 to R104, R121, R140, R141). -/
def Obligations.ByteFrame : Prop :=
  ∀ (s t : State) (d : Byte), exec (.byte d) s = .next t →
    sameHost s t ∧
      (s.st = .idle → sameRegisters s t ∧ t.chan = s.chan) ∧
      (s.st ≠ .idle → t.chan = s.chan.tail) ∧
      (s.st ≠ .payload → t.buf = s.buf) ∧
      (s.st = .scan → t.cnt = s.cnt ∨ (t.st = .payload ∧ t.cnt = 0#3)) ∧
      (∀ (i : Nat) (h : i < 7), i ≠ s.cnt.toNat → t.buf[i] = s.buf[i]) ∧
      (¬ (s.st = .payload ∧ s.cnt = 6#3 ∧ d = s.acc) → t.resValid = s.resValid ∧ t.resStatus = s.resStatus) ∧
      (s.st = .payload → s.cnt.toNat ≤ 5 → t.st = s.st ∧ t.pend = s.pend) ∧
      (s.st = .scan → ¬ (s.pend = true ∧ d = s.sync) → t.st = s.st)

/-- The frame of `EOS` and `IOERR` (R201, R202, R206). -/
def Obligations.ErrorTokenFrame : Prop :=
  ∀ (s t : State) (i : Instr), i = .eos ∨ i = .ioerr → exec i s = .next t →
    sameHost s t ∧ t.buf = s.buf ∧ (s.st = .idle → sameRegisters s t ∧ t.chan = s.chan) ∧
      (s.st ≠ .idle → t.chan = s.chan.tail)

/-- The frame of `REQ` (R160). -/
def Obligations.ReqFrame : Prop :=
  ∀ s t : State, exec .req s = .next t →
    t.buf = s.buf ∧ t.resStatus = s.resStatus ∧ t.chan = s.chan ∧ t.sync = s.sync ∧ t.resetIn = s.resetIn ∧
      t.schedule = s.schedule ∧ (s.st ≠ .idle → sameRegisters s t ∧ t.reqIn = s.reqIn)

/-- The frame of `RESET` (R240): only the registers of R22 and its own port change. -/
def Obligations.ResetFrame : Prop :=
  ∀ s t : State, exec .reset s = .next t →
    t.chan = s.chan ∧ t.reqIn = s.reqIn ∧ t.schedule = s.schedule ∧ t.sync = s.sync

/-! ### Codes, platform, reader, stimulus, consumer -/

/-- R77, R78: the codes of `res_status` and `st`; no two names share one. -/
def Obligations.CodesOfNames : Prop :=
  Status.ok.code = 0b00#2 ∧ Status.io.code = 0b01#2 ∧ Status.truncated.code = 0b10#2 ∧
    Ctrl.idle.code = 0b00#2 ∧ Ctrl.scan.code = 0b01#2 ∧ Ctrl.payload.code = 0b10#2 ∧
    (∀ a b : Status, a.code = b.code → a = b) ∧ (∀ a b : Ctrl, a.code = b.code → a = b)

/-- R212, D29: under either choice of RESULT_IRQ, the line is level-sensitive on `res_valid` or absent, and an accepted
REQ and a RESET clear it. -/
def Obligations.ResultIrqLine : Prop :=
  (∀ s : State, s.irqUnder .noLine = none ∧ s.irqUnder .levelOnResValid = some s.resValid) ∧
    ∀ s t : State, (exec .req s = .next t ∧ s.st = .idle) ∨ exec .reset s = .next t →
      t.irqUnder .levelOnResValid = some false

/-- D26, I19: the tokens of a line error under each policy, and that the host's move puts them at the channel's end. -/
def Obligations.LineErrorTokens : Prop :=
  (∀ d : Byte, lineErrorTokens .asIoerr d = [.ioerr] ∧ lineErrorTokens .drop d = [] ∧
      lineErrorTokens .pass d = [.byte d]) ∧
    ∀ (s : State) (d : Byte) (rest : List (List HostMove)), s.schedule = [.lineError d] :: rest →
      s.deliver = .ok { s with
        schedule := rest
        chan := s.chan ++ lineErrorTokens Config.lineErrorPolicy d }

/-- R13, I2, I3: in a state that meets R26, a read of any frame output is the reader's fault exactly where the frame outputs are
not meaningful, and a read of `res_status` exactly where `res_valid = 0`. -/
def Obligations.ReadOfNoneIsReadersFault : Prop :=
  ∀ s : State, s.Inv →
    (∀ f, readOutput (s.field f) = .fault .noneRead ↔ ¬ (s.resValid = true ∧ s.resStatus = some .ok)) ∧
      (readOutput s.mark0 = .fault .noneRead ↔ ¬ (s.resValid = true ∧ s.resStatus = some .ok)) ∧
      (readOutput s.mark1 = .fault .noneRead ↔ ¬ (s.resValid = true ∧ s.resStatus = some .ok)) ∧
      (readOutput s.distance = .fault .noneRead ↔ ¬ (s.resValid = true ∧ s.resStatus = some .ok)) ∧
      (readOutput s.strength = .fault .noneRead ↔ ¬ (s.resValid = true ∧ s.resStatus = some .ok)) ∧
      (readOutput s.frame = .fault .noneRead ↔ ¬ (s.resValid = true ∧ s.resStatus = some .ok)) ∧
      (s.readStatus = .fault .noneRead ↔ s.resValid = false)

/-- R90: `FRAME` expands to a well-formed frame, `BADFRAME` to one whose checksum byte is one more, `BYTES` to its bytes. -/
def Obligations.PseudoInstructionsExpand : Prop :=
  (∀ (sync dl dh sl sh it sp : Byte), ∃ f : WireFrame, f.Valid sync ∧
      f.dl = dl ∧ f.dh = dh ∧ f.sl = sl ∧ f.sh = sh ∧ f.it = it ∧ f.sp = sp ∧
      (Line.frame dl dh sl sh it sp).expand sync = (f.tokens sync).map Token.toInstr ∧
      (Line.badframe dl dh sl sh it sp).expand sync =
        ({ f with ck := f.ck + 1#8 }.tokens sync).map Token.toInstr) ∧
    (∀ (sync : Byte) (bs : List Byte), (Line.bytes bs).expand sync = bs.map Instr.byte) ∧
    ((Line.frame 0x00#8 0x0A#8 0x00#8 0x01#8 0x05#8 0x00#8).expand 0x59#8).map encode =
      [0x059#12, 0x059#12, 0x000#12, 0x00A#12, 0x000#12, 0x001#12, 0x005#12, 0x000#12, 0x0C2#12]

/-- R166, R175: the block shows every distance; the consumer outside it forwards a distance iff it is below 12000, aborts on
`IO` and retries on `TRUNCATED`. -/
def Obligations.ConsumerActions : Prop :=
  (∀ d : Half, consumeDistance d = .forward d ↔ d.toNat < 12000) ∧
    (∀ d : Half, consumeDistance d = .drop ↔ 12000 ≤ d.toNat) ∧
    (∀ s : State, s.resValid = true → s.resStatus = some .io → s.consume = some .abort) ∧
    (∀ s : State, s.resValid = true → s.resStatus = some .truncated → s.consume = some .retry) ∧
    (∀ (s : State) (d : Half), s.resValid = true → s.resStatus = some .ok → s.distance = some d →
      s.consume = some (consumeDistance d))
end

