-- ==== Sys2Proof/Laws/Buffer.lean ====
section
/-! SUPPORT. The payload buffer and the checksum: what a write leaves, what a read of the first entries gives, and the
wrapping sum as a sum of natural numbers. -/

namespace Sys2Proof.Machine

/-- After `buf[j] <- d`, entry `j` is `d` and every other entry is as before. -/
theorem State.bufWrite_getElem (s : State) (j : Nat) (d : Byte) (i : Nat) (h : i < 7) :
    (s.bufWrite j d).buf[i] = if i = j then some d else s.buf[i] := by
  simp only [State.bufWrite, Vector.getElem_setIfInBounds, eq_comm]

/-- The entries of a list are bytes exactly when the list is those bytes. -/
theorem bytesOf_eq_some {entries : List (Option Byte)} {bytes : List Byte} :
    bytesOf entries = some bytes ↔ entries = bytes.map some := by
  induction entries generalizing bytes with
  | nil => cases bytes <;> simp [bytesOf]
  | cons e rest ih =>
    cases e with
    | none => cases bytes <;> simp [bytesOf]
    | some b =>
      cases bytes with
      | nil => simp [bytesOf]
      | cons c more => simp [bytesOf, ih, and_comm]

/-- A read of the first `n` entries gives `bytes` exactly when there are `n` of them and each entry holds its byte. -/
theorem State.readBytes_eq_some {s : State} {n : Nat} (hn : n ≤ 7) {bytes : List Byte} :
    s.readBytes n = some bytes ↔
      bytes.length = n ∧ ∀ (i : Nat) (h : i < 7), i < n → s.buf[i] = bytes[i]? := by
  simp only [State.readBytes, bytesOf_eq_some]
  constructor
  · intro h
    have hl : bytes.length = n := by
      have := congrArg List.length h
      simp at this
      omega
    refine ⟨hl, fun i h7 hi => ?_⟩
    have := congrArg (·[i]?) h
    simpa [hi, h7, hl, List.getElem?_eq_getElem (l := bytes) (i := i) (hl ▸ hi)] using this
  · rintro ⟨hl, h⟩
    refine List.ext_getElem (by simp; omega) fun i h1 h2 => ?_
    have hi : i < n := by simp at h2; omega
    have := h i (by omega) hi
    simpa [List.getElem?_eq_getElem (l := bytes) (i := i) (hl ▸ hi)] using this

/-- The wrapping sum is the sum modulo 256 (R9, R11). -/
theorem sumBytes_toNat (bytes : List Byte) : (sumBytes bytes).toNat = (bytes.map BitVec.toNat).sum % 256 := by
  induction bytes with
  | nil => rfl
  | cons b rest ih =>
    rw [show sumBytes (b :: rest) = b + sumBytes rest from rfl, BitVec.toNat_add, ih]
    simp [Nat.add_mod]

/-- The checksum as a sum of natural numbers modulo 256 (R71). -/
theorem checksum_toNat (sync : Byte) (payload : List Byte) :
    (checksum sync payload).toNat = (2 * sync.toNat + (payload.map BitVec.toNat).sum) % 256 := by
  simp only [checksum, BitVec.toNat_add, sumBytes_toNat]
  omega

/-- A byte is the checksum exactly when its value is the sum modulo 256 (R71). -/
theorem eq_checksum_iff {a sync : Byte} {payload : List Byte} :
    a = checksum sync payload ↔ a.toNat = (2 * sync.toNat + (payload.map BitVec.toNat).sum) % 256 := by
  rw [← checksum_toNat, BitVec.toNat_inj]

end Sys2Proof.Machine
end

