-- ==== Sys2Proof/Laws/PerInstr.lean ====
section
/-! SUPPORT. Facts about every event as syntax, one lemma per constructor. -/

namespace Sys2Proof.Laws.Encoding

/-- The event is well formed, and its word is selected by a row of the opcode map that gives it back (R81). -/
def Statement (i : Instr) : Prop :=
  i.wf = true ∧ ∃ r ∈ opcodeMap, r.selects (encode i) = true ∧ r.event ((encode i).extractLsb' 0 8) = i

theorem byte (d : Byte) : Statement (.byte d) := by
  refine ⟨by simp [Instr.wf, Instr.fields, EventFields.reserved?], _, List.mem_cons_self .., ?_, ?_⟩
  · revert d; decide
  · revert d; decide

theorem eos : Statement .eos := ⟨by decide, opcodeMap[1], by simp [opcodeMap], by decide, by decide⟩

theorem ioerr : Statement .ioerr := ⟨by decide, opcodeMap[2], by simp [opcodeMap], by decide, by decide⟩

theorem req : Statement .req := ⟨by decide, opcodeMap[3], by simp [opcodeMap], by decide, by decide⟩

theorem reset : Statement .reset := ⟨by decide, opcodeMap[4], by simp [opcodeMap], by decide, by decide⟩

end Sys2Proof.Laws.Encoding
end

