-- ==== Sys2Proof/Laws/State.lean ====
section
/-! SUPPORT. What each named update of the state makes of each field: one lemma per field per update. -/

namespace Sys2Proof.Machine

variable (s : State)

@[simp] theorem State.take_st : (s.take).st = s.st := rfl
@[simp] theorem State.take_pend : (s.take).pend = s.pend := rfl
@[simp] theorem State.take_acc : (s.take).acc = s.acc := rfl
@[simp] theorem State.take_cnt : (s.take).cnt = s.cnt := rfl
@[simp] theorem State.take_buf : (s.take).buf = s.buf := rfl
@[simp] theorem State.take_resValid : (s.take).resValid = s.resValid := rfl
@[simp] theorem State.take_resStatus : (s.take).resStatus = s.resStatus := rfl
@[simp] theorem State.take_evResync : (s.take).evResync = s.evResync := rfl
@[simp] theorem State.take_answer : (s.take).answer = s.answer := rfl
@[simp] theorem State.take_sync : (s.take).sync = s.sync := rfl
@[simp] theorem State.take_chan : (s.take).chan = s.chan.tail := rfl
@[simp] theorem State.take_reqIn : (s.take).reqIn = s.reqIn := rfl
@[simp] theorem State.take_resetIn : (s.take).resetIn = s.resetIn := rfl
@[simp] theorem State.take_schedule : (s.take).schedule = s.schedule := rfl

@[simp] theorem State.took_st : (s.took).st = s.st := rfl
@[simp] theorem State.took_pend : (s.took).pend = s.pend := rfl
@[simp] theorem State.took_acc : (s.took).acc = s.acc := rfl
@[simp] theorem State.took_cnt : (s.took).cnt = s.cnt := rfl
@[simp] theorem State.took_buf : (s.took).buf = s.buf := rfl
@[simp] theorem State.took_resValid : (s.took).resValid = s.resValid := rfl
@[simp] theorem State.took_resStatus : (s.took).resStatus = s.resStatus := rfl
@[simp] theorem State.took_evResync : (s.took).evResync = false := rfl
@[simp] theorem State.took_answer : (s.took).answer = .took := rfl
@[simp] theorem State.took_sync : (s.took).sync = s.sync := rfl
@[simp] theorem State.took_chan : (s.took).chan = s.chan := rfl
@[simp] theorem State.took_reqIn : (s.took).reqIn = s.reqIn := rfl
@[simp] theorem State.took_resetIn : (s.took).resetIn = s.resetIn := rfl
@[simp] theorem State.took_schedule : (s.took).schedule = s.schedule := rfl

@[simp] theorem State.hold_st : (s.hold).st = s.st := rfl
@[simp] theorem State.hold_pend : (s.hold).pend = s.pend := rfl
@[simp] theorem State.hold_acc : (s.hold).acc = s.acc := rfl
@[simp] theorem State.hold_cnt : (s.hold).cnt = s.cnt := rfl
@[simp] theorem State.hold_buf : (s.hold).buf = s.buf := rfl
@[simp] theorem State.hold_resValid : (s.hold).resValid = s.resValid := rfl
@[simp] theorem State.hold_resStatus : (s.hold).resStatus = s.resStatus := rfl
@[simp] theorem State.hold_evResync : (s.hold).evResync = false := rfl
@[simp] theorem State.hold_answer : (s.hold).answer = .hold := rfl
@[simp] theorem State.hold_sync : (s.hold).sync = s.sync := rfl
@[simp] theorem State.hold_chan : (s.hold).chan = s.chan := rfl
@[simp] theorem State.hold_reqIn : (s.hold).reqIn = s.reqIn := rfl
@[simp] theorem State.hold_resetIn : (s.hold).resetIn = s.resetIn := rfl
@[simp] theorem State.hold_schedule : (s.hold).schedule = s.schedule := rfl

@[simp] theorem State.wait_st : (s.wait).st = s.st := rfl
@[simp] theorem State.wait_pend : (s.wait).pend = s.pend := rfl
@[simp] theorem State.wait_acc : (s.wait).acc = s.acc := rfl
@[simp] theorem State.wait_cnt : (s.wait).cnt = s.cnt := rfl
@[simp] theorem State.wait_buf : (s.wait).buf = s.buf := rfl
@[simp] theorem State.wait_resValid : (s.wait).resValid = s.resValid := rfl
@[simp] theorem State.wait_resStatus : (s.wait).resStatus = s.resStatus := rfl
@[simp] theorem State.wait_evResync : (s.wait).evResync = false := rfl
@[simp] theorem State.wait_answer : (s.wait).answer = .quiet := rfl
@[simp] theorem State.wait_sync : (s.wait).sync = s.sync := rfl
@[simp] theorem State.wait_chan : (s.wait).chan = s.chan := rfl
@[simp] theorem State.wait_reqIn : (s.wait).reqIn = s.reqIn := rfl
@[simp] theorem State.wait_resetIn : (s.wait).resetIn = s.resetIn := rfl
@[simp] theorem State.wait_schedule : (s.wait).schedule = s.schedule := rfl

@[simp] theorem State.bufWrite_st (i : Nat) (d : Byte) : (s.bufWrite i d).st = s.st := rfl
@[simp] theorem State.bufWrite_pend (i : Nat) (d : Byte) : (s.bufWrite i d).pend = s.pend := rfl
@[simp] theorem State.bufWrite_acc (i : Nat) (d : Byte) : (s.bufWrite i d).acc = s.acc := rfl
@[simp] theorem State.bufWrite_cnt (i : Nat) (d : Byte) : (s.bufWrite i d).cnt = s.cnt := rfl
@[simp] theorem State.bufWrite_buf (i : Nat) (d : Byte) : (s.bufWrite i d).buf = s.buf.setIfInBounds i (some d) := rfl
@[simp] theorem State.bufWrite_resValid (i : Nat) (d : Byte) : (s.bufWrite i d).resValid = s.resValid := rfl
@[simp] theorem State.bufWrite_resStatus (i : Nat) (d : Byte) : (s.bufWrite i d).resStatus = s.resStatus := rfl
@[simp] theorem State.bufWrite_evResync (i : Nat) (d : Byte) : (s.bufWrite i d).evResync = s.evResync := rfl
@[simp] theorem State.bufWrite_answer (i : Nat) (d : Byte) : (s.bufWrite i d).answer = s.answer := rfl
@[simp] theorem State.bufWrite_sync (i : Nat) (d : Byte) : (s.bufWrite i d).sync = s.sync := rfl
@[simp] theorem State.bufWrite_chan (i : Nat) (d : Byte) : (s.bufWrite i d).chan = s.chan := rfl
@[simp] theorem State.bufWrite_reqIn (i : Nat) (d : Byte) : (s.bufWrite i d).reqIn = s.reqIn := rfl
@[simp] theorem State.bufWrite_resetIn (i : Nat) (d : Byte) : (s.bufWrite i d).resetIn = s.resetIn := rfl
@[simp] theorem State.bufWrite_schedule (i : Nat) (d : Byte) : (s.bufWrite i d).schedule = s.schedule := rfl

@[simp] theorem State.accumulate_st (d : Byte) : (s.accumulate d).st = s.st := rfl
@[simp] theorem State.accumulate_pend (d : Byte) : (s.accumulate d).pend = s.pend := rfl
@[simp] theorem State.accumulate_acc (d : Byte) : (s.accumulate d).acc = s.acc + d := rfl
@[simp] theorem State.accumulate_cnt (d : Byte) : (s.accumulate d).cnt = s.cnt := rfl
@[simp] theorem State.accumulate_buf (d : Byte) : (s.accumulate d).buf = s.buf := rfl
@[simp] theorem State.accumulate_resValid (d : Byte) : (s.accumulate d).resValid = s.resValid := rfl
@[simp] theorem State.accumulate_resStatus (d : Byte) : (s.accumulate d).resStatus = s.resStatus := rfl
@[simp] theorem State.accumulate_evResync (d : Byte) : (s.accumulate d).evResync = s.evResync := rfl
@[simp] theorem State.accumulate_answer (d : Byte) : (s.accumulate d).answer = s.answer := rfl
@[simp] theorem State.accumulate_sync (d : Byte) : (s.accumulate d).sync = s.sync := rfl
@[simp] theorem State.accumulate_chan (d : Byte) : (s.accumulate d).chan = s.chan := rfl
@[simp] theorem State.accumulate_reqIn (d : Byte) : (s.accumulate d).reqIn = s.reqIn := rfl
@[simp] theorem State.accumulate_resetIn (d : Byte) : (s.accumulate d).resetIn = s.resetIn := rfl
@[simp] theorem State.accumulate_schedule (d : Byte) : (s.accumulate d).schedule = s.schedule := rfl

@[simp] theorem State.setPend_st : (s.setPend).st = s.st := rfl
@[simp] theorem State.setPend_pend : (s.setPend).pend = true := rfl
@[simp] theorem State.setPend_acc : (s.setPend).acc = s.acc := rfl
@[simp] theorem State.setPend_cnt : (s.setPend).cnt = s.cnt := rfl
@[simp] theorem State.setPend_buf : (s.setPend).buf = s.buf := rfl
@[simp] theorem State.setPend_resValid : (s.setPend).resValid = s.resValid := rfl
@[simp] theorem State.setPend_resStatus : (s.setPend).resStatus = s.resStatus := rfl
@[simp] theorem State.setPend_evResync : (s.setPend).evResync = s.evResync := rfl
@[simp] theorem State.setPend_answer : (s.setPend).answer = s.answer := rfl
@[simp] theorem State.setPend_sync : (s.setPend).sync = s.sync := rfl
@[simp] theorem State.setPend_chan : (s.setPend).chan = s.chan := rfl
@[simp] theorem State.setPend_reqIn : (s.setPend).reqIn = s.reqIn := rfl
@[simp] theorem State.setPend_resetIn : (s.setPend).resetIn = s.resetIn := rfl
@[simp] theorem State.setPend_schedule : (s.setPend).schedule = s.schedule := rfl

@[simp] theorem State.clearScan_st : (s.clearScan).st = s.st := rfl
@[simp] theorem State.clearScan_pend : (s.clearScan).pend = false := rfl
@[simp] theorem State.clearScan_acc : (s.clearScan).acc = 0x00#8 := rfl
@[simp] theorem State.clearScan_cnt : (s.clearScan).cnt = s.cnt := rfl
@[simp] theorem State.clearScan_buf : (s.clearScan).buf = s.buf := rfl
@[simp] theorem State.clearScan_resValid : (s.clearScan).resValid = s.resValid := rfl
@[simp] theorem State.clearScan_resStatus : (s.clearScan).resStatus = s.resStatus := rfl
@[simp] theorem State.clearScan_evResync : (s.clearScan).evResync = s.evResync := rfl
@[simp] theorem State.clearScan_answer : (s.clearScan).answer = s.answer := rfl
@[simp] theorem State.clearScan_sync : (s.clearScan).sync = s.sync := rfl
@[simp] theorem State.clearScan_chan : (s.clearScan).chan = s.chan := rfl
@[simp] theorem State.clearScan_reqIn : (s.clearScan).reqIn = s.reqIn := rfl
@[simp] theorem State.clearScan_resetIn : (s.clearScan).resetIn = s.resetIn := rfl
@[simp] theorem State.clearScan_schedule : (s.clearScan).schedule = s.schedule := rfl

@[simp] theorem State.freshScan_st : (s.freshScan).st = .scan := rfl
@[simp] theorem State.freshScan_pend : (s.freshScan).pend = false := rfl
@[simp] theorem State.freshScan_acc : (s.freshScan).acc = 0x00#8 := rfl
@[simp] theorem State.freshScan_cnt : (s.freshScan).cnt = 0#3 := rfl
@[simp] theorem State.freshScan_buf : (s.freshScan).buf = s.buf := rfl
@[simp] theorem State.freshScan_resValid : (s.freshScan).resValid = s.resValid := rfl
@[simp] theorem State.freshScan_resStatus : (s.freshScan).resStatus = s.resStatus := rfl
@[simp] theorem State.freshScan_evResync : (s.freshScan).evResync = s.evResync := rfl
@[simp] theorem State.freshScan_answer : (s.freshScan).answer = s.answer := rfl
@[simp] theorem State.freshScan_sync : (s.freshScan).sync = s.sync := rfl
@[simp] theorem State.freshScan_chan : (s.freshScan).chan = s.chan := rfl
@[simp] theorem State.freshScan_reqIn : (s.freshScan).reqIn = s.reqIn := rfl
@[simp] theorem State.freshScan_resetIn : (s.freshScan).resetIn = s.resetIn := rfl
@[simp] theorem State.freshScan_schedule : (s.freshScan).schedule = s.schedule := rfl

@[simp] theorem State.resync_st : (s.resync).st = .scan := rfl
@[simp] theorem State.resync_pend : (s.resync).pend = false := rfl
@[simp] theorem State.resync_acc : (s.resync).acc = 0x00#8 := rfl
@[simp] theorem State.resync_cnt : (s.resync).cnt = 0#3 := rfl
@[simp] theorem State.resync_buf : (s.resync).buf = s.buf := rfl
@[simp] theorem State.resync_resValid : (s.resync).resValid = s.resValid := rfl
@[simp] theorem State.resync_resStatus : (s.resync).resStatus = s.resStatus := rfl
@[simp] theorem State.resync_evResync : (s.resync).evResync = true := rfl
@[simp] theorem State.resync_answer : (s.resync).answer = s.answer := rfl
@[simp] theorem State.resync_sync : (s.resync).sync = s.sync := rfl
@[simp] theorem State.resync_chan : (s.resync).chan = s.chan := rfl
@[simp] theorem State.resync_reqIn : (s.resync).reqIn = s.reqIn := rfl
@[simp] theorem State.resync_resetIn : (s.resync).resetIn = s.resetIn := rfl
@[simp] theorem State.resync_schedule : (s.resync).schedule = s.schedule := rfl

@[simp] theorem State.startDecode_st : (s.startDecode).st = .scan := rfl
@[simp] theorem State.startDecode_pend : (s.startDecode).pend = false := rfl
@[simp] theorem State.startDecode_acc : (s.startDecode).acc = 0x00#8 := rfl
@[simp] theorem State.startDecode_cnt : (s.startDecode).cnt = 0#3 := rfl
@[simp] theorem State.startDecode_buf : (s.startDecode).buf = s.buf := rfl
@[simp] theorem State.startDecode_resValid : (s.startDecode).resValid = false := rfl
@[simp] theorem State.startDecode_resStatus : (s.startDecode).resStatus = s.resStatus := rfl
@[simp] theorem State.startDecode_evResync : (s.startDecode).evResync = s.evResync := rfl
@[simp] theorem State.startDecode_answer : (s.startDecode).answer = s.answer := rfl
@[simp] theorem State.startDecode_sync : (s.startDecode).sync = s.sync := rfl
@[simp] theorem State.startDecode_chan : (s.startDecode).chan = s.chan := rfl
@[simp] theorem State.startDecode_reqIn : (s.startDecode).reqIn = s.reqIn := rfl
@[simp] theorem State.startDecode_resetIn : (s.startDecode).resetIn = s.resetIn := rfl
@[simp] theorem State.startDecode_schedule : (s.startDecode).schedule = s.schedule := rfl

@[simp] theorem State.complete_st (x : Status) : (s.complete x).st = .idle := rfl
@[simp] theorem State.complete_pend (x : Status) : (s.complete x).pend = false := rfl
@[simp] theorem State.complete_acc (x : Status) : (s.complete x).acc = 0x00#8 := rfl
@[simp] theorem State.complete_cnt (x : Status) : (s.complete x).cnt = 0#3 := rfl
@[simp] theorem State.complete_buf (x : Status) : (s.complete x).buf = s.buf := rfl
@[simp] theorem State.complete_resValid (x : Status) : (s.complete x).resValid = true := rfl
@[simp] theorem State.complete_resStatus (x : Status) : (s.complete x).resStatus = some x := rfl
@[simp] theorem State.complete_evResync (x : Status) : (s.complete x).evResync = s.evResync := rfl
@[simp] theorem State.complete_answer (x : Status) : (s.complete x).answer = s.answer := rfl
@[simp] theorem State.complete_sync (x : Status) : (s.complete x).sync = s.sync := rfl
@[simp] theorem State.complete_chan (x : Status) : (s.complete x).chan = s.chan := rfl
@[simp] theorem State.complete_reqIn (x : Status) : (s.complete x).reqIn = s.reqIn := rfl
@[simp] theorem State.complete_resetIn (x : Status) : (s.complete x).resetIn = s.resetIn := rfl
@[simp] theorem State.complete_schedule (x : Status) : (s.complete x).schedule = s.schedule := rfl

@[simp] theorem State.resetRegisters_st : (s.resetRegisters).st = .idle := rfl
@[simp] theorem State.resetRegisters_pend : (s.resetRegisters).pend = false := rfl
@[simp] theorem State.resetRegisters_acc : (s.resetRegisters).acc = 0x00#8 := rfl
@[simp] theorem State.resetRegisters_cnt : (s.resetRegisters).cnt = 0#3 := rfl
@[simp] theorem State.resetRegisters_buf : (s.resetRegisters).buf = Vector.replicate 7 none := rfl
@[simp] theorem State.resetRegisters_resValid : (s.resetRegisters).resValid = false := rfl
@[simp] theorem State.resetRegisters_resStatus : (s.resetRegisters).resStatus = none := rfl
@[simp] theorem State.resetRegisters_evResync : (s.resetRegisters).evResync = s.evResync := rfl
@[simp] theorem State.resetRegisters_answer : (s.resetRegisters).answer = s.answer := rfl
@[simp] theorem State.resetRegisters_sync : (s.resetRegisters).sync = s.sync := rfl
@[simp] theorem State.resetRegisters_chan : (s.resetRegisters).chan = s.chan := rfl
@[simp] theorem State.resetRegisters_reqIn : (s.resetRegisters).reqIn = s.reqIn := rfl
@[simp] theorem State.resetRegisters_resetIn : (s.resetRegisters).resetIn = s.resetIn := rfl
@[simp] theorem State.resetRegisters_schedule : (s.resetRegisters).schedule = s.schedule := rfl

@[simp] theorem State.takeReq_st : (s.takeReq).st = s.st := rfl
@[simp] theorem State.takeReq_pend : (s.takeReq).pend = s.pend := rfl
@[simp] theorem State.takeReq_acc : (s.takeReq).acc = s.acc := rfl
@[simp] theorem State.takeReq_cnt : (s.takeReq).cnt = s.cnt := rfl
@[simp] theorem State.takeReq_buf : (s.takeReq).buf = s.buf := rfl
@[simp] theorem State.takeReq_resValid : (s.takeReq).resValid = s.resValid := rfl
@[simp] theorem State.takeReq_resStatus : (s.takeReq).resStatus = s.resStatus := rfl
@[simp] theorem State.takeReq_evResync : (s.takeReq).evResync = s.evResync := rfl
@[simp] theorem State.takeReq_answer : (s.takeReq).answer = s.answer := rfl
@[simp] theorem State.takeReq_sync : (s.takeReq).sync = s.sync := rfl
@[simp] theorem State.takeReq_chan : (s.takeReq).chan = s.chan := rfl
@[simp] theorem State.takeReq_reqIn : (s.takeReq).reqIn = false := rfl
@[simp] theorem State.takeReq_resetIn : (s.takeReq).resetIn = s.resetIn := rfl
@[simp] theorem State.takeReq_schedule : (s.takeReq).schedule = s.schedule := rfl

@[simp] theorem State.takeReset_st : (s.takeReset).st = s.st := rfl
@[simp] theorem State.takeReset_pend : (s.takeReset).pend = s.pend := rfl
@[simp] theorem State.takeReset_acc : (s.takeReset).acc = s.acc := rfl
@[simp] theorem State.takeReset_cnt : (s.takeReset).cnt = s.cnt := rfl
@[simp] theorem State.takeReset_buf : (s.takeReset).buf = s.buf := rfl
@[simp] theorem State.takeReset_resValid : (s.takeReset).resValid = s.resValid := rfl
@[simp] theorem State.takeReset_resStatus : (s.takeReset).resStatus = s.resStatus := rfl
@[simp] theorem State.takeReset_evResync : (s.takeReset).evResync = s.evResync := rfl
@[simp] theorem State.takeReset_answer : (s.takeReset).answer = s.answer := rfl
@[simp] theorem State.takeReset_sync : (s.takeReset).sync = s.sync := rfl
@[simp] theorem State.takeReset_chan : (s.takeReset).chan = s.chan := rfl
@[simp] theorem State.takeReset_reqIn : (s.takeReset).reqIn = s.reqIn := rfl
@[simp] theorem State.takeReset_resetIn : (s.takeReset).resetIn = false := rfl
@[simp] theorem State.takeReset_schedule : (s.takeReset).schedule = s.schedule := rfl

@[simp] theorem State.enterPayload_st : (s.enterPayload).st = .payload := rfl
@[simp] theorem State.enterPayload_pend : (s.enterPayload).pend = false := rfl
@[simp] theorem State.enterPayload_acc : (s.enterPayload).acc = s.acc := rfl
@[simp] theorem State.enterPayload_cnt : (s.enterPayload).cnt = 0#3 := rfl
@[simp] theorem State.enterPayload_buf : (s.enterPayload).buf = s.buf := rfl
@[simp] theorem State.enterPayload_resValid : (s.enterPayload).resValid = s.resValid := rfl
@[simp] theorem State.enterPayload_resStatus : (s.enterPayload).resStatus = s.resStatus := rfl
@[simp] theorem State.enterPayload_evResync : (s.enterPayload).evResync = s.evResync := rfl
@[simp] theorem State.enterPayload_answer : (s.enterPayload).answer = s.answer := rfl
@[simp] theorem State.enterPayload_sync : (s.enterPayload).sync = s.sync := rfl
@[simp] theorem State.enterPayload_chan : (s.enterPayload).chan = s.chan := rfl
@[simp] theorem State.enterPayload_reqIn : (s.enterPayload).reqIn = s.reqIn := rfl
@[simp] theorem State.enterPayload_resetIn : (s.enterPayload).resetIn = s.resetIn := rfl
@[simp] theorem State.enterPayload_schedule : (s.enterPayload).schedule = s.schedule := rfl

@[simp] theorem State.countByte_st : (s.countByte).st = s.st := rfl
@[simp] theorem State.countByte_pend : (s.countByte).pend = s.pend := rfl
@[simp] theorem State.countByte_acc : (s.countByte).acc = s.acc := rfl
@[simp] theorem State.countByte_cnt : (s.countByte).cnt = s.cnt + 1#3 := rfl
@[simp] theorem State.countByte_buf : (s.countByte).buf = s.buf := rfl
@[simp] theorem State.countByte_resValid : (s.countByte).resValid = s.resValid := rfl
@[simp] theorem State.countByte_resStatus : (s.countByte).resStatus = s.resStatus := rfl
@[simp] theorem State.countByte_evResync : (s.countByte).evResync = s.evResync := rfl
@[simp] theorem State.countByte_answer : (s.countByte).answer = s.answer := rfl
@[simp] theorem State.countByte_sync : (s.countByte).sync = s.sync := rfl
@[simp] theorem State.countByte_chan : (s.countByte).chan = s.chan := rfl
@[simp] theorem State.countByte_reqIn : (s.countByte).reqIn = s.reqIn := rfl
@[simp] theorem State.countByte_resetIn : (s.countByte).resetIn = s.resetIn := rfl
@[simp] theorem State.countByte_schedule : (s.countByte).schedule = s.schedule := rfl

end Sys2Proof.Machine
end

