-- ==== Sys2Proof/Laws/Run.lean ====
section
/-! SUPPORT. Runs of several steps, what the host's moves put on the channel, and the frame outputs where they are not
meaningful. -/

namespace Sys2Proof.Machine

/-- No step leaves the state. -/
@[simp] theorem runSteps_zero (s : State) : runSteps 0 s = .next s := rfl

/-- A run is its first step and the run from there. -/
theorem runSteps_succ {n : Nat} {s t : State} (h : step s = .next t) : runSteps (n + 1) s = runSteps n t := by
  have h' : Sys2Proof.core.step s = .next t := h
  simp only [runSteps, Host.Core.run, h']
  rfl

/-- A run stops at its first refusal. -/
theorem runSteps_refused {n : Nat} {s : State} {r : Refusal} (h : step s = .refused r) :
    runSteps (n + 1) s = .refused r := by
  have h' : Sys2Proof.core.step s = .refused r := h
  simp only [runSteps, Host.Core.run, h']
  rfl

/-- A run of `n + 1` steps that answers a next state took a first step. -/
theorem runSteps_succ_next {n : Nat} {s u : State} (h : runSteps (n + 1) s = .next u) :
    ∃ t, step s = .next t ∧ runSteps n t = .next u := by
  cases hs : step s with
  | next t => exact ⟨t, rfl, runSteps_succ hs ▸ h⟩
  | fault f =>
    have h' : Sys2Proof.core.step s = .fault f := hs
    simp [runSteps, Host.Core.run, h'] at h
  | refused r => rw [runSteps_refused hs] at h; cases h

/-- Two runs, one after the other. -/
theorem runSteps_add {m n : Nat} {s t : State} (h : runSteps m s = .next t) :
    runSteps (m + n) s = runSteps n t := by
  induction m generalizing s with
  | zero => cases h; rw [Nat.zero_add]
  | succ m ih =>
    obtain ⟨v, hv, hr⟩ := runSteps_succ_next h
    rw [show m + 1 + n = (m + n) + 1 by omega, runSteps_succ hv, ih hr]

/-- An offered event puts its token, if it is one, at the channel's end. -/
@[simp] theorem State.offered_chan (s : State) (i : Instr) :
    (s.offered i).chan = s.chan ++ (tokenOf i).toList := by
  cases i <;> simp [State.offered, tokenOf]

/-- A move of the host puts its tokens at the channel's end. -/
theorem State.arrive_chan {s u : State} {m : HostMove} (h : s.arrive m = .ok u) : u.chan = s.chan ++ m.tokens := by
  cases m with
  | offer w =>
    cases hw : decode w <;> simp only [State.arrive, hw, Except.ok.injEq, reduceCtorEq] at h
    subst h
    simp [HostMove.tokens, hw, Except.toOption]
  | lineError d =>
    simp only [State.arrive, Except.ok.injEq] at h
    subst h
    rfl

/-- The moves before a step put their tokens at the channel's end, in order. -/
theorem State.arriveAll_chan {moves : List HostMove} {s u : State} (h : s.arriveAll moves = .ok u) :
    u.chan = s.chan ++ moves.flatMap HostMove.tokens := by
  induction moves generalizing s with
  | nil =>
    simp only [State.arriveAll, Except.ok.injEq] at h
    simp [h]
  | cons m rest ih =>
    cases hm : s.arrive m with
    | error why => simp [State.arriveAll, hm] at h
    | ok v =>
      simp only [State.arriveAll, hm] at h
      simp [ih h, State.arrive_chan hm]

/-- Where the frame outputs are not meaningful, each is `none` (R31). -/
theorem State.noFrame_of_not_shown {s : State} (h : s.frameShown = false) : s.noFrame := by
  have hf : ∀ f, s.field f = none := fun f => by simp [State.field, h]
  exact ⟨hf, by simp [State.mark0, h], by simp [State.mark1, h],
    by simp [State.distance, State.distHi, State.distLo, hf, assembleOut],
    by simp [State.strength, State.strHi, State.strLo, hf, assembleOut], by simp [State.frame, h]⟩

end Sys2Proof.Machine
end

