-- ==== Sys2Proof/Laws/Step.lean ====
section
/-! SUPPORT. What the parts of a step can do: the host's moves, the selection, the meanings, the step. -/

namespace Sys2Proof.Machine

/-- Offering an event changes nothing but its port, and the channel only grows at its end. -/
theorem State.offered_form (s : State) (i : Instr) :
    ∃ more q r, s.offered i = { s with chan := s.chan ++ more, reqIn := q, resetIn := r } := by
  cases i with
  | byte d => exact ⟨[.byte d], s.reqIn, s.resetIn, rfl⟩
  | eos => exact ⟨[.eos], s.reqIn, s.resetIn, rfl⟩
  | ioerr => exact ⟨[.ioerr], s.reqIn, s.resetIn, rfl⟩
  | req => exact ⟨[], true, s.resetIn, by simp [State.offered]⟩
  | reset => exact ⟨[], s.reqIn, true, by simp [State.offered]⟩

/-- One move of the host changes nothing but the ports. -/
theorem State.arrive_form {s u : State} {m : HostMove} (h : s.arrive m = .ok u) :
    ∃ more q r, u = { s with chan := s.chan ++ more, reqIn := q, resetIn := r } := by
  cases m with
  | offer w =>
    cases hw : decode w with
    | error why => simp [State.arrive, hw] at h
    | ok i =>
      simp only [State.arrive, hw, Except.ok.injEq] at h
      exact h ▸ s.offered_form i
  | lineError d =>
    simp only [State.arrive, Except.ok.injEq] at h
    exact ⟨_, s.reqIn, s.resetIn, h.symm⟩

/-- The host's moves before a step change nothing but the ports. -/
theorem State.arriveAll_form {moves : List HostMove} :
    ∀ {s u : State}, s.arriveAll moves = .ok u →
      ∃ more q r, u = { s with chan := s.chan ++ more, reqIn := q, resetIn := r } := by
  induction moves with
  | nil =>
    intro s u h
    simp only [State.arriveAll, Except.ok.injEq] at h
    exact ⟨[], s.reqIn, s.resetIn, by simp [← h]⟩
  | cons m rest ih =>
    intro s u h
    cases hm : s.arrive m with
    | error why => simp [State.arriveAll, hm] at h
    | ok v =>
      simp only [State.arriveAll, hm] at h
      obtain ⟨a, q, r, rfl⟩ := State.arrive_form hm
      obtain ⟨b, q', r', rfl⟩ := ih h
      exact ⟨a ++ b, q', r', by simp⟩

/-- What the host's next moves leave: the registers, the outputs and SYNC as they were, the channel grown at its end, the
schedule one entry shorter. -/
theorem State.deliver_form {s u : State} (h : s.deliver = .ok u) :
    ∃ more q r, u = { s with chan := s.chan ++ more, reqIn := q, resetIn := r, schedule := s.schedule.tail } := by
  cases hs : s.schedule with
  | nil =>
    simp only [State.deliver, hs, Except.ok.injEq] at h
    refine ⟨[], s.reqIn, s.resetIn, h ▸ ?_⟩
    cases s
    simp_all
  | cons moves rest =>
    simp only [State.deliver, hs] at h
    obtain ⟨a, q, r, rfl⟩ := State.arriveAll_form h
    exact ⟨a, q, r, rfl⟩

/-- A step that answers a next state: the state meets R26, the host's moves are events, and either no event is offered or
the selected event's meaning gives that state. -/
theorem step_next {s t : State} (h : step s = .next t) :
    s.consistent = true ∧ ∃ u, s.deliver = .ok u ∧
      ((u.selected = none ∧ t = u.wait) ∨ ∃ i, u.selected = some i ∧ exec i u = .next t) := by
  cases hc : s.consistent with
  | false => simp [step, State.fetch, hc] at h
  | true =>
    cases hd : s.deliver with
    | error why => simp [step, State.fetch, hc, hd] at h
    | ok u =>
      refine ⟨rfl, u, rfl, ?_⟩
      cases hsel : u.selected with
      | none =>
        simp only [step, State.fetch, hc, hd, hsel, if_true, Host.Outcome.next.injEq] at h
        exact .inl ⟨rfl, h.symm⟩
      | some i =>
        simp only [step, State.fetch, hc, hd, hsel, if_true] at h
        exact .inr ⟨i, rfl, h⟩

/-- The step of a state that meets R26 and whose host moves are events: the selected event's meaning, or a wait. -/
theorem step_of_deliver {s u : State} (hc : s.consistent = true) (hd : s.deliver = .ok u) :
    step s = match u.selected with
      | none => .next u.wait
      | some i => exec i u := by
  cases hsel : u.selected <;> simp [step, State.fetch, hc, hd, hsel]

/-- Everything `BYTE d` can do when it answers a next state (R100). -/
theorem execByte_next {s t : State} {d : Byte} (h : execByte d s = .next t) :
    (s.st = .idle ∧ t = s.hold) ∨
    (s.st = .scan ∧ d = s.sync ∧ s.pend = false ∧ t = s.scanFirstSync) ∨
    (s.st = .scan ∧ d ≠ s.sync ∧ s.pend = false ∧ t = s.scanNoise) ∨
    (s.st = .scan ∧ d = s.sync ∧ s.pend = true ∧ t = s.scanAlign) ∨
    (s.st = .scan ∧ d ≠ s.sync ∧ s.pend = true ∧ t = s.scanBreak) ∨
    (s.st = .payload ∧ s.cnt.toNat ≤ 5 ∧ t = s.payloadStore d) ∨
    (s.st = .payload ∧ s.cnt = 6#3 ∧ d = s.acc ∧ t = s.acceptFrame d) ∨
    (s.st = .payload ∧ s.cnt = 6#3 ∧ d ≠ s.acc ∧ t = s.rejectFrame d) := by
  cases hst : s.st with
  | idle => simp only [execByte, hst, Host.Outcome.next.injEq] at h; simp [h]
  | scan =>
    simp only [execByte, hst, Host.Outcome.next.injEq, State.scanByte] at h
    by_cases hd : d = s.sync <;> cases hp : s.pend <;> simp [hd, hp] at h <;> simp [hd, h]
  | payload =>
    simp only [execByte, hst] at h
    by_cases h5 : s.cnt.toNat ≤ 5
    · simp only [h5, if_true, Host.Outcome.next.injEq] at h; simp [h5, h]
    · by_cases h6 : s.cnt = 6#3
      · by_cases hd : d = s.acc <;> simp [h6, hd, State.judgeFrame] at h <;> simp [h6, hd, h]
      · simp [h5, h6] at h
  | reserved => simp [execByte, hst] at h

/-- Everything an error token can do when it answers a next state (R201, R202). -/
theorem State.endDecode_next {s t : State} {x : Status} (h : s.endDecode x = .next t) :
    (s.st = .idle ∧ t = s.hold) ∨ ((s.st = .scan ∨ s.st = .payload) ∧ t = s.take.took.complete x) := by
  cases hst : s.st <;> simp only [State.endDecode, hst, Host.Outcome.next.injEq, reduceCtorEq] at h <;> simp [h]

/-- Everything `REQ` can do when it answers a next state (R160). -/
theorem execReq_next {s t : State} (h : execReq s = .next t) :
    (s.st = .idle ∧ t = s.took.takeReq.startDecode) ∨
    ((s.st = .scan ∨ s.st = .payload) ∧ t = s.hold) := by
  cases hst : s.st <;> simp only [execReq, hst, Host.Outcome.next.injEq, reduceCtorEq] at h <;> simp [h]

/-- Everything `RESET` does (R240). -/
theorem execReset_next {s t : State} (h : execReset s = .next t) :
    t = s.took.takeReset.resetRegisters := by
  simp only [execReset, Host.Outcome.next.injEq] at h
  exact h.symm

/-- The ways an event is selected (R210). -/
theorem State.selected_some {s : State} {i : Instr} (h : s.selected = some i) :
    (s.resetIn = true ∧ i = .reset) ∨
    (s.resetIn = false ∧ s.reqIn = true ∧ i = .req ∧ (s.st = .idle ∨ s.chan = [])) ∨
    (s.resetIn = false ∧ (s.st = .idle → s.reqIn = false) ∧ ∃ k rest, s.chan = k :: rest ∧ i = k.toInstr) := by
  unfold State.selected State.reqReady at h
  cases hr : s.resetIn <;> cases hq : s.reqIn <;> cases hc : s.chan <;> cases hst : s.st <;>
    simp [hr, hq, hc, hst] at h <;> simp [h]

/-- No event is selected only where none is offered. -/
theorem State.selected_none {s : State} (h : s.selected = none) :
    s.resetIn = false ∧ s.reqIn = false ∧ s.chan = [] := by
  unfold State.selected State.reqReady at h
  cases hr : s.resetIn <;> cases hq : s.reqIn <;> cases hc : s.chan <;> cases hst : s.st <;> simp_all

end Sys2Proof.Machine
end

