-- ==== Sys2Proof/Machine/Runner.lean ====
section
/-! DEFINITION. The runner of 95_test_vectors.md section 0: event words offered to the block one at a time. -/

namespace Sys2Proof.Machine

/-- Why the runner stopped. -/
inductive RunnerStop where
  | finished
  | hold (index : Nat)
  | refuse (index : Nat) (r : Refusal)
  | fault (index : Nat) (f : Fault)
  deriving DecidableEq, Repr

/-- What a run gives: the completions `STATUS@n`, the indices of the events whose steps raised `ev_resync`, the tokens
taken, why it stopped, and the state it stopped in. -/
structure RunnerResult where
  completions : List (Status × Nat)
  resyncs : List Nat
  tokens : Nat
  stop : RunnerStop
  final : State
  deriving DecidableEq, Repr

/-- The completion a step from `s` to `t` made, if any: `res_valid` rises (R206). -/
def completionOf (s t : State) : Option Status := if !s.resValid && t.resValid then t.resStatus else none

/-- The run from event number `index`, with `tokens` byte-channel tokens taken before it. -/
def runVector (index tokens : Nat) (s : State) : List Word → RunnerResult
  | [] => ⟨[], [], tokens, .finished, s⟩
  | w :: rest =>
    match step (s.withFetchWord 12 w.toNat) with
    | .refused r => ⟨[], [], tokens, .refuse index r, s⟩
    | .fault f => ⟨[], [], tokens, .fault index f, s⟩
    | .next t =>
      if t.answer = .took then
        let n := if w.extractLsb' 10 2 = 0b00#2 then tokens + 1 else tokens
        let r := runVector (index + 1) n t rest
        { r with
          completions := ((completionOf s t).toList.map (fun status => (status, n))) ++ r.completions
          resyncs := (if t.evResync then [index] else []) ++ r.resyncs }
      else ⟨[], [], tokens, .hold index, s⟩

end Sys2Proof.Machine
end

