-- ==== Sys2Proof/Tests/Slice0.lean ====
section
/-! SUPPORT. The model's own tests: decoding and the checks on words, single steps against the spec's examples, and a
witness for the hypotheses of each statement in Certificates/Slice0/Obligations.lean. -/

namespace Sys2Proof.Tests

open Sys2Proof Sys2Proof.Machine

/-! ### Small states -/

/-- A state in `SCAN` with these tokens on the channel. -/
def scanning (pend : Bool) (chan : List Token) : State :=
  { State.reset with
    st := .scan
    pend := pend
    acc := if pend then 0x59#8 else 0x00#8
    chan := chan }

/-- The state after `59 59` and `cnt` of the payload bytes `00 0A 00 01 05 00` (T7), with these tokens on the channel. -/
def reading (cnt : Nat) (chan : List Token) : State :=
  { State.reset with
    st := .payload
    cnt := BitVec.ofNat 3 cnt
    buf := Vector.ofFn (fun i => if i.val < cnt then [0x00#8, 0x0A#8, 0x00#8, 0x01#8, 0x05#8, 0x00#8][i.val]? else none)
    acc := checksum 0x59#8 ([0x00#8, 0x0A#8, 0x00#8, 0x01#8, 0x05#8, 0x00#8].take cnt)
    chan := chan }

/-- The state after the frame of T7 was accepted. -/
def accepted (chan : List Token) : State :=
  { State.reset with
    buf := #v[some 0x00#8, some 0x0A#8, some 0x00#8, some 0x01#8, some 0x05#8, some 0x00#8, some 0xC2#8]
    resValid := true
    resStatus := some .ok
    chan := chan }

/-- The frame of T7, and the frame FA of 95_test_vectors.md. -/
def frameT7 : WireFrame := ⟨0x00#8, 0x0A#8, 0x00#8, 0x01#8, 0x05#8, 0x00#8, 0xC2#8⟩
def frameFA : WireFrame := ⟨0x34#8, 0x12#8, 0x78#8, 0x56#8, 0x02#8, 0x00#8, 0xC8#8⟩

/-- An outcome is a next state with this property. -/
def gives (o : Host.Outcome State Fault Refusal) (p : State → Bool) : Bool :=
  match o with
  | .next t => p t
  | .fault _ => false
  | .refused _ => false

/-- `st, pend, acc, cnt, res_valid, res_status` of a state. -/
def regs (s : State) : Ctrl × Bool × Byte × BitVec 3 × Bool × Option Status :=
  (s.st, s.pend, s.acc, s.cnt, s.resValid, s.resStatus)

/-! ### Words (R80, R81, R86; vectors W1 to W8) -/

theorem test_decode_byte : decode 0b000001011001#12 = .ok (.byte 0x59#8) := by decide
theorem test_decode_byte_ff : decode 0b000011111111#12 = .ok (.byte 0xFF#8) := by decide
theorem test_decode_eos : decode 0b000100000000#12 = .ok .eos := by decide
theorem test_decode_ioerr : decode 0b001000000000#12 = .ok .ioerr := by decide
theorem test_decode_req : decode 0b010000000000#12 = .ok .req := by decide
theorem test_decode_reset : decode 0b100000000000#12 = .ok .reset := by decide
theorem test_decode_w1 : decode 0xC00#12 = .error .channel := by decide
theorem test_decode_w2 : decode 0x300#12 = .error .kind := by decide
theorem test_decode_w3 : decode 0x101#12 = .error .data := by decide
theorem test_decode_w4 : decode 0x401#12 = .error .data := by decide
theorem test_decode_w5 : decode 0x8FF#12 = .error .data := by decide
theorem test_decode_other_kind : decode 0x500#12 = .error .kind ∧ decode 0xB00#12 = .error .kind := by decide

/-! ### The checks of WellFormed, one ill-formed term each -/

theorem test_wf_channel : (⟨0b11#2, 0b00#2, 0x00#8⟩ : EventFields).reserved? = some .channel := by decide
theorem test_wf_byte_kind : (⟨0b00#2, 0b11#2, 0x00#8⟩ : EventFields).reserved? = some .kind := by decide
theorem test_wf_token_data : (⟨0b00#2, 0b10#2, 0x01#8⟩ : EventFields).reserved? = some .data := by decide
theorem test_wf_port_kind : (⟨0b01#2, 0b01#2, 0x00#8⟩ : EventFields).reserved? = some .kind := by decide
theorem test_wf_port_data : (⟨0b10#2, 0b00#2, 0x80#8⟩ : EventFields).reserved? = some .data := by decide
theorem test_wf_events : [Instr.byte 0xFF#8, .eos, .ioerr, .req, .reset].all Instr.wf = true := by decide

/-! ### Single steps -/

/-- R104's example and vector S6 (event 3), where the accumulator is cleared with the flag, and R121's example. -/
theorem test_byte_before_checksum :
    gives (step (scanning true [.byte 0x34#8])) (fun t => regs t == (.scan, false, 0x00#8, 0#3, false, none)) = true ∧
      gives (step (reading 1 [.byte 0x0A#8])) (fun t =>
        t.buf[1] == some 0x0A#8 && t.acc == 0xBC#8 && t.cnt == 2#3) = true := by decide
/-- R140's example, and vector V1 (event 9), the resync. -/
theorem test_byte_checksum :
    gives (step (reading 6 [.byte 0xC2#8])) (fun t => t.distance == some 2560#16 && t.strength == some 256#16 &&
      t.frame == some 0xC2000501000A005959#72 && t.chan == []) = true ∧
      gives (step (reading 6 [.byte 0xC3#8])) (fun t =>
        regs t == (.scan, false, 0x00#8, 0#3, false, none) && t.evResync) = true := by decide
/-- R202's example. -/
theorem test_eos_truncates :
    gives (step (reading 3 [.eos])) (fun t => regs t == (.idle, false, 0x00#8, 0#3, true, some .truncated) &&
      t.frame == none) = true := by decide
/-- Vector Q4: held in `IDLE`, the result stays. -/
theorem test_eos_held :
    gives (step (accepted [.eos])) (fun t => t.answer == .hold && t.chan == [.eos] && t.distance == some 2560#16) = true := by
  decide
/-- R201's example. -/
theorem test_ioerr_ends :
    gives (step (scanning true [.ioerr])) (fun t => regs t == (.idle, false, 0x00#8, 0#3, true, some .io)) = true := by
  decide
/-- Vector E3: at the checksum position. -/
theorem test_ioerr_at_checksum :
    gives (step (reading 6 [.ioerr])) (fun t => t.resStatus == some .io && t.distance == none && t.buf[6] == none) = true := by
  decide
/-- R160's example, vector Q5. -/
theorem test_req_starts :
    gives (step { accepted [] with reqIn := true }) (fun t => regs t == (.scan, false, 0x00#8, 0#3, false, some .ok) &&
      t.frame == none && t.buf == (accepted []).buf) = true := by decide
/-- Vector Q2. -/
theorem test_req_held :
    gives (step { scanning false [] with reqIn := true }) (fun t => t.answer == .hold && t.reqIn && t.st == .scan) = true := by
  decide
/-- R240's example; the tokens stay. -/
theorem test_reset_abandons :
    gives (step { reading 3 [.byte 0x01#8] with resetIn := true }) (fun t =>
      regs t == (.idle, false, 0x00#8, 0#3, false, none) && t.buf == Vector.replicate 7 none &&
        t.chan == [.byte 0x01#8]) = true := by decide
/-- Word `0x800` from the reset state (W8). -/
theorem test_reset_placed :
    gives (step (State.reset.withFetchWord 16 0x800)) (fun t => t.answer == .took && t.st == .idle) = true := by decide
/-! ### Text of the stimulus language (R89) -/

theorem test_parse_byte : parseLine ['b', 'y', 't', 'e', ' ', '0', 'x', '5', 'A', ' ', ';', 'h'] =
    .ok (some (.event (.byte 0x5A#8))) := by decide
theorem test_parse_bytes : parseLine ['B', 'Y', 'T', 'E', 'S', ' ', '2', '5', '5', ',', ' ', '0'] =
    .ok (some (.bytes [0xFF#8, 0x00#8])) := by decide
theorem test_parse_too_big : parseLine ['B', 'Y', 'T', 'E', ' ', '2', '5', '6'] = .error .operand := by decide
theorem test_parse_req_operand : parseLine ['R', 'E', 'Q', ' ', '1'] = .error .operandCount := by decide
theorem test_parse_comment : parseLine [';', 'x'] = .ok none := by decide

/-! ### Witnesses: the hypotheses of each statement are met -/

theorem witness_DecodeAndEncodeAgree : decode 0x0FF#12 = .ok (.byte 0xFF#8) := by decide

theorem witness_ReservedWordsRefused :
    State.reset.Inv ∧ [0xC00#12, 0xFFF#12, 0x300#12, 0x3FF#12, 0x101#12, 0x2FF#12, 0x401#12, 0xBFF#12].all
      (fun w => (decode w).toOption == none) = true ∧
      ({ State.reset with schedule := [[.offer 0x400#12, .offer 0x300#12]] }).schedule =
        ([HostMove.offer 0x400#12] ++ HostMove.offer 0x300#12 :: []) :: [] := by decide

theorem witness_StepRunsDecodedEvent :
    ({ State.reset with schedule := [[.offer 0x400#12]] }).Inv ∧ State.reset.chan = [] ∧ State.reset.reqIn = false ∧
      State.reset.resetIn = false ∧ decode 0x400#12 = .ok .req ∧
      decodeTableWord 16 0x400 = some .req ∧ decodeTableWord 16 0x0FF = some (.byte 0xFF#8) := by decide

/-- One state per clause. -/
theorem witness_StepPriority :
    ({ scanning false [.byte 0x59#8] with resetIn := true }).Inv ∧
      ({ scanning false [.byte 0x59#8] with resetIn := true }).deliver =
        .ok { scanning false [.byte 0x59#8] with resetIn := true } ∧
      ({ State.reset with reqIn := true }).deliver = .ok { State.reset with reqIn := true } ∧
      (reading 2 [.eos]).Inv ∧ (reading 2 [.eos]).deliver = .ok (reading 2 [.eos]) ∧
      (accepted [.byte 0x59#8]).Inv ∧ (accepted [.byte 0x59#8]).deliver = .ok (accepted [.byte 0x59#8]) ∧
      ({ scanning true [] with reqIn := true }).Inv ∧
      ({ scanning true [] with reqIn := true }).deliver = .ok { scanning true [] with reqIn := true } :=
  ⟨by decide, rfl, rfl, by decide, rfl, by decide, rfl, by decide, rfl⟩

theorem witness_NothingOfferedBlockWaits : (reading 4 []).Inv ∧ (reading 4 []).chan = [] ∧ (reading 4 []).reqIn = false ∧
    (reading 4 []).resetIn = false ∧ (reading 4 []).schedule.headD [] = [] := by decide

/-- A token taken and a token held, from the channel and from this step's moves. -/
theorem witness_TokensTakenInOrder :
    gives (step (scanning false [.byte 0x12#8, .eos])) (fun t => t.chan == [.eos]) = true ∧
      gives (step (accepted [.eos])) (fun t => t.chan == [.eos]) = true ∧
      gives (step { scanning false [] with schedule := [[.offer 0x012#12, .offer 0x100#12]] })
        (fun t => t.chan == [.eos]) = true ∧
      gives (step { accepted [] with schedule := [[.offer 0x012#12]] }) (fun t => t.chan == [.byte 0x12#8]) = true := by decide

theorem witness_EveryEventTakenOrHeld : State.reset.Inv ∧ (scanning true []).Inv ∧ (reading 6 []).Inv := by decide

/-- For ByteFirstSync, ByteNoise, ByteSecondSyncAligns and ByteBreaksPair. -/
theorem witness_scanner :
    (scanning false []).Inv ∧ (scanning false []).st = .scan ∧ (scanning false []).pend = false ∧
      (scanning true []).Inv ∧ (scanning true []).pend = true ∧ (0x59#8 : Byte) = (scanning true []).sync ∧
      (0x58#8 : Byte) ≠ (scanning true []).sync := by decide

/-- A sync byte from the channel, and one that arrives in this step. -/
theorem witness_AlignmentNeedsTwoSyncs :
    gives (step (scanning true [.byte 0x59#8])) (fun t => t.st == .payload) = true ∧
      gives (step { scanning true [] with schedule := [[.offer 0x059#12]] }) (fun t => t.st == .payload) = true ∧
      (scanning true [.byte 0x59#8]).st ≠ .payload := by decide

/-- With nothing pending and a lone sync byte, and with a sync byte pending. -/
theorem witness_NoSyncPairNoFrame :
    (scanning false [.byte 0x59#8, .byte 0x12#8]).Inv ∧ (scanning false []).st = .scan ∧
      (scanning false [.byte 0x59#8, .byte 0x12#8]).onlyChannel ∧
      (scanning false [.byte 0x59#8, .byte 0x12#8]).chan = [0x59#8, 0x12#8].map .byte ∧
      (∀ k : Nat, ¬ (((if false then [0x59#8] else []) ++ [0x59#8, 0x12#8] : List Byte)[k]? = some 0x59#8 ∧
        ((if false then [0x59#8] else []) ++ [0x59#8, 0x12#8] : List Byte)[k + 1]? = some 0x59#8)) ∧
      (scanning true [.byte 0x12#8]).Inv ∧ (scanning true [.byte 0x12#8]).onlyChannel ∧
      (∀ k : Nat, ¬ (((if true then [0x59#8] else []) ++ [0x12#8] : List Byte)[k]? = some 0x59#8 ∧
        ((if true then [0x59#8] else []) ++ [0x12#8] : List Byte)[k + 1]? = some 0x59#8)) := by
  refine ⟨by decide, rfl, by decide, rfl, ?_, by decide, by decide, ?_⟩ <;> rintro (_ | _ | k) <;> simp

/-- The first and the last payload byte. -/
theorem witness_PayloadByteStored : (reading 0 []).Inv ∧ (reading 0 []).st = .payload ∧ (reading 0 []).cnt.toNat ≤ 5 ∧
    (reading 5 []).Inv ∧ (reading 5 []).cnt.toNat = 5 := by decide

/-- For ChecksumMatchCompletes and ChecksumMismatchResyncs. -/
theorem witness_validator : (reading 6 []).Inv ∧ (reading 6 []).st = .payload ∧ (reading 6 []).cnt = 6#3 ∧
    0xC2#8 = (reading 6 []).acc ∧ 0xC3#8 ≠ (reading 6 []).acc := by decide

theorem witness_ResyncStrobe :
    gives (step (reading 6 [.byte 0xC3#8])) (fun t => t.evResync) = true ∧
      gives (step (reading 6 [.byte 0xC2#8])) (fun t => !t.evResync) = true := by decide

theorem witness_MismatchIsNoOutcome : gives (step (reading 6 [.byte 0x00#8])) (fun t => t.evResync) = true := by decide

theorem witness_FrameIsDecoded :
    (scanning false (frameT7.tokens 0x59#8 ++ [.eos])).Inv ∧ (scanning false []).st = .scan ∧
      (scanning false []).pend = false ∧ (scanning false []).sync = 0x59#8 ∧
      (scanning false (frameT7.tokens 0x59#8 ++ [.eos])).onlyChannel ∧
      (scanning false (frameT7.tokens 0x59#8 ++ [.eos])).chan = frameT7.tokens 0x59#8 ++ [.eos] ∧
      frameT7.Valid 0x59#8 := by decide

theorem witness_CorruptedFrameSkipped :
    (scanning false (({ frameT7 with ck := 0xC3#8 }).tokens 0x59#8 ++ [])).Inv ∧ (scanning false []).st = .scan ∧
      (scanning false []).pend = false ∧ (scanning false []).sync = 0x59#8 ∧
      (scanning false (({ frameT7 with ck := 0xC3#8 }).tokens 0x59#8 ++ [])).onlyChannel ∧
      (scanning false (({ frameT7 with ck := 0xC3#8 }).tokens 0x59#8 ++ [])).chan =
        ({ frameT7 with ck := 0xC3#8 }).tokens 0x59#8 ++ [] ∧
      ¬ ({ frameT7 with ck := 0xC3#8 }).Valid 0x59#8 := by decide

/-- The state of `witness_ConsecutiveFramesInOrder`: two frames on the channel, a REQ at steps 1 and 11. -/
def twoFrames : State :=
  { accepted (frameT7.tokens 0x59#8 ++ frameFA.tokens 0x59#8 ++ []) with
    schedule := [HostMove.offer (encode .req)] :: (List.replicate 9 [] ++ [[HostMove.offer (encode .req)]]) }

theorem witness_ConsecutiveFramesInOrder :
    twoFrames.Inv ∧ twoFrames.st = .idle ∧ twoFrames.reqIn = false ∧ twoFrames.resetIn = false ∧
      twoFrames.sync = 0x59#8 ∧ twoFrames.chan = frameT7.tokens 0x59#8 ++ frameFA.tokens 0x59#8 ++ [] ∧
      frameT7.Valid 0x59#8 ∧ frameFA.Valid 0x59#8 ∧
      twoFrames.schedule =
        [HostMove.offer (encode .req)] :: (List.replicate 9 [] ++ [[HostMove.offer (encode .req)]]) := by decide

theorem witness_ReqStartsDecode : (accepted []).st = .idle ∧ (scanning true []).st = .scan ∧
    (reading 6 []).st = .payload := by decide

/-- Each way a decode ends. -/
theorem witness_DecodeEndsOnlyByOutcomeOrReset :
    gives (step { scanning true [] with resetIn := true }) (fun t => t.st == .idle) = true ∧
      gives (step (scanning false [.eos])) (fun t => t.st == .idle) = true ∧
      gives (step (reading 6 [.ioerr])) (fun t => t.st == .idle) = true ∧
      gives (step (reading 6 [.byte 0xC2#8])) (fun t => t.st == .idle) = true := by decide

theorem witness_ResultStableWhileIdle :
    gives (exec (.byte 0x59#8) (accepted [])) (fun _ => true) = true ∧
      (accepted [.byte 0x59#8]).deliver = .ok (accepted [.byte 0x59#8]) ∧
      gives (step (accepted [.byte 0x59#8])) (fun t => t.answer == .hold) = true :=
  ⟨by decide, rfl, by decide⟩

theorem witness_TokensHeldWhileIdle : State.reset.st = .idle := by decide

/-- For FrameOutputsOnlyAfterOk, FrameFieldOutputs, DistanceValue, StrengthValue and FrameBusLayout. -/
theorem witness_outputs :
    (accepted []).Inv ∧ (accepted []).resValid = true ∧ (accepted []).resStatus = some .ok ∧
      (accepted []).buf[0] = some 0x00#8 ∧ (accepted []).buf[1] = some 0x0A#8 ∧ (accepted []).buf[2] = some 0x00#8 ∧
      (accepted []).buf[3] = some 0x01#8 ∧
      (∀ i : Fin 7, (accepted []).buf[i] = some (#v[0x00#8, 0x0A#8, 0x00#8, 0x01#8, 0x05#8, 0x00#8, 0xC2#8])[i]) ∧
      ¬ (State.reset.resValid = true ∧ State.reset.resStatus = some .ok) := by decide

/-- The frame outputs change at an `OK` completion, at a REQ and at RESET. -/
theorem witness_FrameOutputsChangeOnly :
    gives (step (reading 6 [.byte 0xC2#8])) (fun t => t.frame != (reading 6 []).frame) = true ∧
      gives (step { accepted [] with reqIn := true }) (fun t => t.frame != (accepted []).frame) = true ∧
      gives (step { accepted [] with resetIn := true }) (fun t => t.frame != (accepted []).frame) = true ∧
      (scanning true []).Inv ∧ (scanning true []).st ≠ .idle := by decide

/-- Two states with different buffers and results. -/
theorem witness_EarlierDecodeHasNoInfluence :
    ({ accepted (frameFA.tokens 0x59#8) with reqIn := true }).Inv ∧
      ({ State.reset with reqIn := true, chan := frameFA.tokens 0x59#8 }).Inv ∧
      (accepted []).st = .idle ∧ State.reset.st = .idle ∧
      ({ accepted (frameFA.tokens 0x59#8) with reqIn := true }).reqIn = true ∧
      sameHost { accepted (frameFA.tokens 0x59#8) with reqIn := true }
        { State.reset with reqIn := true, chan := frameFA.tokens 0x59#8 } ∧
      ({ State.reset with reqIn := true, chan := frameFA.tokens 0x59#8 }).chan =
        ({ accepted (frameFA.tokens 0x59#8) with reqIn := true }).chan := by decide

theorem witness_DecodeCompletesByEndOfStream :
    (reading 2 [.byte 0x00#8, .eos]).Inv ∧ (reading 2 [.byte 0x00#8, .eos]).st ≠ .idle ∧
      (reading 2 [.byte 0x00#8, .eos]).onlyChannel ∧ .eos ∈ (reading 2 [.byte 0x00#8, .eos]).chan ∧
      (scanning true [.ioerr]).onlyChannel ∧ .ioerr ∈ (scanning true [.ioerr]).chan := by decide

/-- For IoerrCompletes and EosCompletes. -/
theorem witness_error_tokens : (scanning true []).st = .scan ∧ (reading 6 []).st = .payload ∧ (accepted []).st = .idle := by
  decide

theorem witness_CompletionIsPrecise :
    gives (step (scanning true [.ioerr])) (fun t => t.resValid) = true ∧ (scanning true []).resValid = false ∧
      gives (step (reading 0 [.eos])) (fun t => t.resValid) = true ∧ (reading 0 []).resValid = false ∧
      gives (step (reading 6 [.byte 0xC2#8])) (fun t => t.resValid) = true := by decide

theorem witness_ResetTakenInEveryState : ({ reading 6 [.byte 0xC2#8] with resetIn := true }).Inv ∧
    ({ reading 6 [.byte 0xC2#8] with resetIn := true }).deliver = .ok { reading 6 [.byte 0xC2#8] with resetIn := true } :=
  ⟨by decide, rfl⟩

theorem witness_ResetState : State.reset = State.reset ∧ gives (exec .reset (reading 3 [.byte 0x01#8])) (fun _ => true) = true :=
  ⟨rfl, by decide⟩

/-- A state in `SCAN` with a sync byte pending meets R26 and steps. -/
theorem witness_StepKeepsR26 : (scanning true [.byte 0x59#8]).MeetsR26 ∧
    gives (step (scanning true [.byte 0x59#8])) (fun _ => true) = true :=
  ⟨⟨by decide, by decide, by simp [scanning], by decide, by decide, by simp [scanning, State.reset]⟩, by decide⟩

/-- `st = 0b11`, and `cnt = 7`. -/
theorem witness_BrokenStateRefused : ¬ ({ State.reset with st := .reserved }).MeetsR26 ∧
    ¬ ({ reading 6 [] with cnt := 7#3 }).MeetsR26 :=
  ⟨fun h => h.codesUsed.1 rfl, fun h => h.codesUsed.2.1 rfl⟩

theorem witness_SyncIsConstant :
    gives (step { State.reset with sync := 0xAA#8, resetIn := true }) (fun t => t.sync == 0xAA#8) = true := by decide

theorem witness_ReadyOutputs : State.reset.Inv ∧ (reading 6 []).Inv := by decide

/-- For ByteFrame, ErrorTokenFrame, ReqFrame and ResetFrame: every form of `BYTE`, `EOS`, `IOERR`, `REQ` and `RESET` that answers a next state. -/
theorem witness_frames :
    ([accepted [], scanning false [], scanning true [], reading 0 [], reading 5 [], reading 6 []].all (fun s =>
      gives (exec (.byte 0x59#8) s) (fun _ => true) && gives (exec (.byte 0xC2#8) s) (fun _ => true) &&
        gives (exec .eos s) (fun _ => true) && gives (exec .ioerr s) (fun _ => true) &&
        gives (exec .req s) (fun _ => true) && gives (exec .reset s) (fun _ => true))) = true := by decide

theorem witness_ResultIrqLine : gives (exec .req (accepted [])) (fun _ => true) = true ∧ (accepted []).st = .idle ∧
    gives (exec .reset (accepted [])) (fun _ => true) = true := by decide

theorem witness_LineErrorTokens :
    ({ State.reset with schedule := [[.lineError 0x12#8]] }).schedule = [.lineError 0x12#8] :: [] := by decide

theorem witness_ReadOfNoneIsReadersFault : (accepted []).Inv ∧ State.reset.Inv := by decide

theorem witness_ConsumerActions :
    consumeDistance 11999#16 = .forward 11999#16 ∧ consumeDistance 12000#16 = .drop ∧
      (accepted []).distance = some 2560#16 ∧
      ({ State.reset with resValid := true, resStatus := some .io }).Inv ∧
      ({ State.reset with resValid := true, resStatus := some .truncated }).Inv := by decide

end Sys2Proof.Tests
end

/-! ### The invariants of R26, one rule per part -/

namespace Sys2Proof.Machine

/-- The check of R26 is the conjunction of its six parts. -/
theorem State.inv_iff {s : State} :
    s.Inv ↔ s.idleClean = true ∧ s.scanSeeded = true ∧ s.payloadSummed = true ∧ s.codesUsed = true ∧
      s.resultClosed = true ∧ s.resultSummed = true := by
  simp [State.Inv, State.consistent, and_assoc]

/-- R26 (d): the codes that no reachable state holds. -/
theorem State.Inv.codes_used {s : State} (h : s.Inv) :
    s.st ≠ .reserved ∧ s.cnt ≠ 7#3 ∧ s.resStatus ≠ some .reserved := by
  obtain ⟨-, -, -, hcodes, -, -⟩ := State.inv_iff.mp h
  simpa [State.codesUsed, and_assoc] using hcodes

/-- R26 (e): a result stands in `IDLE`, with a status. -/
theorem State.Inv.result_closed {s : State} (h : s.Inv) (hv : s.resValid = true) :
    s.st = .idle ∧ s.resStatus.isSome = true := by
  obtain ⟨-, -, -, -, hclosed, -⟩ := State.inv_iff.mp h
  simpa [State.resultClosed, hv] using hclosed

/-- The frame outputs are meaningful exactly after `OK` (R31). -/
theorem State.frameShown_iff {s : State} :
    s.frameShown = true ↔ s.resValid = true ∧ s.resStatus = some .ok := by
  simp [State.frameShown]

/-- R26 (f): while the frame outputs are meaningful, all seven entries of the buffer are bytes. -/
theorem State.Inv.readBytes_of_shown {s : State} (h : s.Inv) (hshown : s.frameShown = true) :
    ∃ bytes, s.readBytes 7 = some bytes := by
  obtain ⟨-, -, -, -, -, hsummed⟩ := State.inv_iff.mp h
  obtain ⟨hv, hok⟩ := State.frameShown_iff.mp hshown
  cases hread : s.readBytes 6 with
  | none => simp [State.resultSummed, hv, hok, hread] at hsummed
  | some bytes =>
    cases hck : s.buf[6] with
    | none => simp [State.resultSummed, hv, hok, hread, hck] at hsummed
    | some ck =>
      obtain ⟨hlen, hentry⟩ := (State.readBytes_eq_some (by omega)).mp hread
      refine ⟨bytes ++ [ck], (State.readBytes_eq_some le_rfl).mpr ⟨by simp [hlen], fun i h7 _ => ?_⟩⟩
      rcases Nat.lt_succ_iff_lt_or_eq.mp h7 with h6 | rfl
      · rw [hentry i h7 h6, List.getElem?_append_left (hlen ▸ h6)]
      · rw [hck, ← hlen, List.getElem?_concat_length]

/-! ### What an event's meaning can answer -/

/-- An error token has a meaning wherever `st` is used (R27). -/
theorem State.endDecode_next_or_refused (s : State) (x : Status) :
    (∃ t, s.endDecode x = .next t) ∨ (s.endDecode x = .refused .unreachableState ∧ s.st = .reserved) := by
  cases hst : s.st <;> simp [State.endDecode, hst]

/-- `BYTE` has a meaning wherever `st` and `cnt` are used (R27). -/
theorem execByte_next_or_refused (d : Byte) (s : State) :
    (∃ t, execByte d s = .next t) ∨
      (execByte d s = .refused .unreachableState ∧ (s.st = .reserved ∨ s.cnt = 7#3)) := by
  cases hst : s.st with
  | idle => simp [execByte, hst]
  | scan => simp [execByte, hst]
  | payload =>
    by_cases h5 : s.cnt.toNat ≤ 5
    · simp [execByte, hst, h5]
    · by_cases h6 : s.cnt = 6#3
      · simp [execByte, hst, h6]
      · have h7 : s.cnt = 7#3 := by bv_omega
        simp [execByte, hst, h7]
  | reserved => simp [execByte, hst]

/-- `REQ` has a meaning wherever `st` is used (R27). -/
theorem execReq_next_or_refused (s : State) :
    (∃ t, execReq s = .next t) ∨ (execReq s = .refused .unreachableState ∧ s.st = .reserved) := by
  cases hst : s.st <;> simp [execReq, hst]

/-- Every event is answered by a next state, or refused in a state with an unused code (R15, R27). -/
theorem exec_next_or_refused (i : Instr) (s : State) :
    (∃ t, exec i s = .next t) ∨
      (exec i s = .refused .unreachableState ∧ (s.st = .reserved ∨ s.cnt = 7#3)) := by
  cases i with
  | byte d => exact execByte_next_or_refused d s
  | eos | ioerr => exact (s.endDecode_next_or_refused _).imp_right fun ⟨h, hst⟩ => ⟨h, .inl hst⟩
  | req => exact (execReq_next_or_refused s).imp_right fun ⟨h, hst⟩ => ⟨h, .inl hst⟩
  | reset => exact .inl ⟨_, rfl⟩

/-- In a state that meets R26 every event is answered by a next state. -/
theorem State.Inv.exec_next {s : State} (h : s.Inv) (i : Instr) : ∃ t, exec i s = .next t := by
  obtain ⟨hst, hcnt, -⟩ := h.codes_used
  exact (exec_next_or_refused i s).resolve_right fun ⟨_, hbad⟩ => hbad.elim hst hcnt

/-- No event's meaning faults (R15). -/
theorem exec_ne_fault (i : Instr) (s : State) (f : Fault) : exec i s ≠ .fault f := by
  rcases exec_next_or_refused i s with ⟨t, h⟩ | ⟨h, -⟩ <;> simp [h]

/-- No step faults (R15). -/
theorem step_ne_fault (s : State) (f : Fault) : step s ≠ .fault f := by
  cases hf : s.fetch with
  | refuse r => simp [step, hf]
  | quiet t => simp [step, hf]
  | run i t => simpa [step, hf] using exec_ne_fault i t f

/-! ### Taken or held -/

/-- `BYTE` is taken where `byte_ready = 1` and held where it is 0 (R52). -/
theorem execByte_taken_or_held {s t : State} {d : Byte} (h : execByte d s = .next t) :
    (t.answer = .took ∧ s.byteReady = true) ∨ (t = s.hold ∧ s.byteReady = false) := by
  rcases execByte_next h with ⟨hst, rfl⟩ | ⟨hst, -, -, rfl⟩ | ⟨hst, -, -, rfl⟩ | ⟨hst, -, -, rfl⟩ |
    ⟨hst, -, -, rfl⟩ | ⟨hst, -, rfl⟩ | ⟨hst, -, -, rfl⟩ | ⟨hst, -, -, rfl⟩
  · exact .inr ⟨rfl, by simp [State.byteReady, hst]⟩
  all_goals exact .inl ⟨rfl, by simp [State.byteReady, hst]⟩

/-- An error token is taken where `byte_ready = 1` and held where it is 0 (R52). -/
theorem State.endDecode_taken_or_held {s t : State} {x : Status} (h : s.endDecode x = .next t) :
    (t.answer = .took ∧ s.byteReady = true) ∨ (t = s.hold ∧ s.byteReady = false) := by
  rcases State.endDecode_next h with ⟨hst, rfl⟩ | ⟨hst, rfl⟩
  · exact .inr ⟨rfl, by simp [State.byteReady, hst]⟩
  · exact .inl ⟨rfl, by simpa [State.byteReady] using hst⟩

/-- `REQ` is taken where `req_ready = 1` and held where it is 0 (R160). -/
theorem execReq_taken_or_held {s t : State} (h : execReq s = .next t) :
    (t.answer = .took ∧ s.reqReady = true) ∨ (t = s.hold ∧ s.reqReady = false) := by
  rcases execReq_next h with ⟨hst, rfl⟩ | ⟨hst, rfl⟩
  · exact .inl ⟨rfl, by simp [State.reqReady, hst]⟩
  · exact .inr ⟨rfl, by rcases hst with hst | hst <;> simp [State.reqReady, hst]⟩

/-- The block is ready for the event (R30): the output of the event's port is 1; `RESET` has no such output and is always
accepted (R240). -/
def State.readyFor (s : State) : Instr → Bool
  | .byte _ => s.byteReady
  | .eos => s.byteReady
  | .ioerr => s.byteReady
  | .req => s.reqReady
  | .reset => true

/-- The block is ready for RESET always, for REQ where `req_ready = 1` and for a token where `byte_ready = 1`. -/
theorem State.readyFor_iff {s : State} {i : Instr} :
    s.readyFor i = true ↔
      i = .reset ∨ (i = .req ∧ s.reqReady = true) ∨ ((tokenOf i).isSome = true ∧ s.byteReady = true) := by
  cases i <;> simp [State.readyFor, tokenOf]

/-- The block is not ready for REQ where `req_ready = 0` and for a token where `byte_ready = 0`. -/
theorem State.not_readyFor_iff {s : State} {i : Instr} :
    s.readyFor i = false ↔
      (i = .req ∧ s.reqReady = false) ∨ ((tokenOf i).isSome = true ∧ s.byteReady = false) := by
  cases i <;> simp [State.readyFor, tokenOf]

/-- An event is taken where the block is ready for it, and held where it is not (R14, R15). -/
theorem exec_taken_or_held {s t : State} {i : Instr} (h : exec i s = .next t) :
    (t.answer = .took ∧ s.readyFor i = true) ∨ (t = s.hold ∧ s.readyFor i = false) := by
  cases i with
  | byte d => exact execByte_taken_or_held h
  | eos | ioerr => exact State.endDecode_taken_or_held h
  | req => exact execReq_taken_or_held h
  | reset => exact .inl ⟨execReset_next h ▸ rfl, rfl⟩

/-- Settles O9: in a state without unused codes each meaning answers a next state, which is the hold exactly where the
event's port is not ready. -/
theorem everyEventTakenOrHeld : Obligations.EveryEventTakenOrHeld := by
  refine ⟨fun s i hinv => ?_, fun s i f => ⟨exec_ne_fault i s f, step_ne_fault s f⟩⟩
  obtain ⟨t, ht⟩ := hinv.exec_next i
  refine ⟨t, ht, ?_⟩
  rcases exec_taken_or_held ht with ⟨htook, hready⟩ | ⟨rfl, hready⟩
  · exact .inl ⟨htook, State.readyFor_iff.mp hready⟩
  · exact .inr ⟨rfl, rfl, by simp [sameRegisters], by simp [sameHost], rfl, State.not_readyFor_iff.mp hready⟩

/-! ### What the events and the host leave alone -/

/-- `BYTE` touches neither SYNC nor the other ports nor the schedule. -/
theorem execByte_sameHost {s t : State} {d : Byte} (h : execByte d s = .next t) : sameHost s t := by
  rcases execByte_next h with ⟨-, rfl⟩ | ⟨-, -, -, rfl⟩ | ⟨-, -, -, rfl⟩ | ⟨-, -, -, rfl⟩ | ⟨-, -, -, rfl⟩ |
    ⟨-, -, rfl⟩ | ⟨-, -, -, rfl⟩ | ⟨-, -, -, rfl⟩
  all_goals exact ⟨rfl, rfl, rfl, rfl⟩

/-- An error token touches neither SYNC nor the other ports nor the schedule. -/
theorem State.endDecode_sameHost {s t : State} {x : Status} (h : s.endDecode x = .next t) : sameHost s t := by
  rcases State.endDecode_next h with ⟨-, rfl⟩ | ⟨-, rfl⟩
  all_goals exact ⟨rfl, rfl, rfl, rfl⟩

/-- No event writes SYNC (R7). -/
theorem exec_sync {s t : State} {i : Instr} (h : exec i s = .next t) : t.sync = s.sync := by
  cases i with
  | byte d => exact (execByte_sameHost h).1
  | eos | ioerr => exact (State.endDecode_sameHost h).1
  | req => rcases execReq_next h with ⟨-, rfl⟩ | ⟨-, rfl⟩ <;> rfl
  | reset => exact execReset_next h ▸ rfl

/-- No move of the host writes SYNC (R61). -/
theorem State.deliver_sync {s u : State} (h : s.deliver = .ok u) : u.sync = s.sync := by
  obtain ⟨more, q, r, rfl⟩ := State.deliver_form h
  rfl

/-- Settles O45: neither the host's moves nor the selected event, nor a wait, write SYNC. -/
theorem syncIsConstant : Obligations.SyncIsConstant := by
  intro s t h
  obtain ⟨-, u, hdeliver, ⟨-, rfl⟩ | ⟨i, -, hexec⟩⟩ := step_next h
  · exact u.wait_sync.trans (State.deliver_sync hdeliver)
  · exact (exec_sync hexec).trans (State.deliver_sync hdeliver)

/-! ### Reads of the outputs -/

/-- A read faults exactly where the output is `none` (R13). -/
theorem readOutput_eq_fault_iff {α : Type} {o : Option α} : readOutput o = .fault .noneRead ↔ o = none := by
  cases o <;> simp [readOutput]

/-- A 16-bit output is `none` exactly where one of its bytes is. -/
theorem assembleOut_eq_none_iff {hi lo : Option Byte} : assembleOut hi lo = none ↔ hi = none ∨ lo = none := by
  cases hi <;> cases lo <;> simp [assembleOut]

/-- A byte output is `none` exactly where the frame outputs are not meaningful (R31, I2). -/
theorem State.Inv.field_eq_none_iff {s : State} (h : s.Inv) (f : Field) :
    s.field f = none ↔ s.frameShown = false := by
  cases hshown : s.frameShown with
  | false => simp [State.field, hshown]
  | true =>
    obtain ⟨bytes, hread⟩ := h.readBytes_of_shown hshown
    obtain ⟨hlen, hentry⟩ := (State.readBytes_eq_some le_rfl).mp hread
    have hf := hentry f.index f.index.isLt f.index.isLt
    simp [State.field, hshown, hf, hlen]

/-- The frame bus is `none` exactly where the frame outputs are not meaningful (R31, R76). -/
theorem State.Inv.frame_eq_none_iff {s : State} (h : s.Inv) : s.frame = none ↔ s.frameShown = false := by
  cases hshown : s.frameShown with
  | false => simp [State.frame, hshown]
  | true =>
    obtain ⟨bytes, hread⟩ := h.readBytes_of_shown hshown
    simp [State.frame, hshown, hread]

/-- While `res_valid = 1` the status is a code, so its read faults exactly where `res_valid = 0` (I3). -/
theorem State.Inv.readStatus_eq_fault_iff {s : State} (h : s.Inv) :
    s.readStatus = .fault .noneRead ↔ s.resValid = false := by
  rw [State.readStatus, readOutput_eq_fault_iff]
  cases hv : s.resValid with
  | false => simp
  | true => simpa [Option.isSome_iff_ne_none] using (h.result_closed hv).2

/-- Settles O54: an output is `none` exactly where it is not meaningful, because R26 makes the shown buffer bytes and the
shown status a code. -/
theorem readOfNoneIsReadersFault : Obligations.ReadOfNoneIsReadersFault := by
  intro s hinv
  simp only [← State.frameShown_iff, Bool.not_eq_true, readOutput_eq_fault_iff]
  have hfield := hinv.field_eq_none_iff
  refine ⟨hfield, ?_, ?_, ?_, ?_, hinv.frame_eq_none_iff, hinv.readStatus_eq_fault_iff⟩
  · simp [State.mark0]
  · simp [State.mark1]
  · simp [State.distance, State.distHi, State.distLo, assembleOut_eq_none_iff, hfield]
  · simp [State.strength, State.strHi, State.strLo, assembleOut_eq_none_iff, hfield]

/-! ### One offered word -/

/-- A single offered word that decodes to an event reaches that event's port (R83). -/
theorem State.deliver_single_offer {s : State} {w : Word} {i : Instr} {rest : List (List HostMove)}
    (hsched : s.schedule = [.offer w] :: rest) (hw : decode w = .ok i) :
    s.deliver = .ok ({ s with schedule := rest }.offered i) := by
  simp [State.deliver, hsched, State.arriveAll, State.arrive, hw]

/-- The only event offered is the one selected (R210). -/
theorem State.selected_offered {s : State} (hchan : s.chan = []) (hreq : s.reqIn = false) (hreset : s.resetIn = false)
    (i : Instr) : (s.offered i).selected = some i := by
  cases i with
  | reset => simp [State.offered, State.selected]
  | req => simp [State.offered, State.selected, hchan, hreset]
  | byte _ | eos | ioerr => simp [State.offered, State.selected, hchan, hreq, hreset, Token.toInstr]

/-- With nothing on the ports, a step runs the event of the one word offered (R14). -/
theorem step_single_offer {s : State} {w : Word} {i : Instr} {rest : List (List HostMove)} (hinv : s.Inv)
    (hchan : s.chan = []) (hreq : s.reqIn = false) (hreset : s.resetIn = false)
    (hsched : s.schedule = [.offer w] :: rest) (hw : decode w = .ok i) :
    step s = exec i ({ s with schedule := rest }.offered i) := by
  have hsel : ({ s with schedule := rest }.offered i).selected = some i :=
    State.selected_offered (s := { s with schedule := rest }) hchan hreq hreset i
  simp only [step_of_deliver hinv (State.deliver_single_offer hsched hw), hsel]

/-- A table word that reads as an event is a 12-bit word that decodes to it. -/
theorem decodeTableWord_eq_some {nbits w : Nat} {i : Instr} (h : decodeTableWord nbits w = some i) :
    ∃ e, tableWord? w = some e ∧ decode e = .ok i := by
  cases he : tableWord? w with
  | none => simp [decodeTableWord, he] at h
  | some e =>
    cases hd : decode e with
    | error why => simp [decodeTableWord, he, hd] at h
    | ok j => exact ⟨e, rfl, by simpa [decodeTableWord, he, hd] using h⟩

/-- Settles O5: the word is delivered to its event's port, where nothing else is offered; a word placed by
`withFetchWord` is a case of that. -/
theorem stepRunsDecodedEvent : Obligations.StepRunsDecodedEvent := by
  refine ⟨fun s w i rest hinv hchan hreq hreset hsched hw =>
    step_single_offer hinv hchan hreq hreset hsched hw, fun s nbits w i hinv hw => ?_⟩
  obtain ⟨e, he, hdecode⟩ := decodeTableWord_eq_some hw
  have hplaced : (s.withFetchWord nbits w).Inv := hinv
  exact step_single_offer (w := e) (rest := s.schedule) hplaced rfl rfl rfl
    (by simp [State.withFetchWord, State.placeWord, he]) hdecode

end Sys2Proof.Machine

/-! ### The running sum of the buffer (R71) -/

namespace Sys2Proof.Machine

/-- `buf[0..n-1]` are bytes, and `a` is the sum modulo 256 of both marker bytes and of them (R26 (c) and (f), R71). -/
def State.SummedTo (s : State) (n : Nat) (a : Byte) : Prop :=
  ∃ bytes, s.readBytes n = some bytes ∧ a = checksum s.sync bytes

/-- The running sum in the spec's words: bytes by their index, and a sum of natural numbers modulo 256. -/
theorem State.summedTo_iff {s : State} {n : Nat} (hn : n ≤ 7) {a : Byte} :
    s.SummedTo n a ↔ ∃ bytes : List Byte, bytes.length = n ∧
      (∀ (i : Nat) (h : i < 7), i < n → s.buf[i] = bytes[i]?) ∧
      a.toNat = (2 * s.sync.toNat + (bytes.map BitVec.toNat).sum) % 256 := by
  simp only [State.SummedTo, State.readBytes_eq_some hn, eq_checksum_iff, and_assoc]

/-- The running sum reads the buffer and SYNC only. -/
theorem State.SummedTo.congr {s t : State} {n : Nat} {a : Byte} (h : s.SummedTo n a) (hbuf : t.buf = s.buf)
    (hsync : t.sync = s.sync) : t.SummedTo n a := by
  simpa only [State.SummedTo, State.readBytes, hbuf, hsync] using h

/-- Before the first payload byte the sum is that of the marker bytes (R103). -/
theorem State.summedTo_zero (s : State) : s.SummedTo 0 (s.sync + s.sync) :=
  ⟨[], by simp [State.readBytes, bytesOf], by simp [checksum, sumBytes]⟩

/-- Writing an entry past the summed ones leaves their sum. -/
theorem State.SummedTo.bufWrite_past {s : State} {n : Nat} {a : Byte} (h : s.SummedTo n a) (d : Byte) :
    (s.bufWrite n d).SummedTo n a := by
  obtain ⟨bytes, hread, hsum⟩ := h
  refine ⟨bytes, ?_, hsum⟩
  simpa [State.readBytes, List.take_set_of_le] using hread

/-- One more byte of payload adds that byte to the checksum. -/
theorem checksum_concat (sync d : Byte) (payload : List Byte) :
    checksum sync (payload ++ [d]) = checksum sync payload + d := by
  rw [← BitVec.toNat_inj, BitVec.toNat_add]
  simp only [checksum_toNat, List.map_append, List.sum_append, List.map_singleton, List.sum_singleton]
  omega

/-- Storing the next byte and adding it keeps the running sum (R121). -/
theorem State.SummedTo.bufWrite_next {s : State} {n : Nat} {a : Byte} (hn : n < 7) (h : s.SummedTo n a) (d : Byte) :
    (s.bufWrite n d).SummedTo (n + 1) (a + d) := by
  obtain ⟨bytes, hread, rfl⟩ := h
  obtain ⟨hlen, hentry⟩ := (State.readBytes_eq_some hn.le).mp hread
  refine ⟨bytes ++ [d], (State.readBytes_eq_some hn).mpr ⟨by simp [hlen], fun i h7 hi => ?_⟩,
    (checksum_concat s.sync d bytes).symm⟩
  rw [s.bufWrite_getElem]
  rcases Nat.lt_succ_iff_lt_or_eq.mp hi with hlt | rfl
  · rw [if_neg hlt.ne, hentry i h7 hlt, List.getElem?_append_left (hlen ▸ hlt)]
  · rw [if_pos rfl, ← hlen, List.getElem?_concat_length]

/-! ### The check of R26 and R26 in words -/

/-- R26 (a), the check. -/
theorem State.idleClean_iff {s : State} :
    s.idleClean = true ↔ (s.st = .idle → s.pend = false ∧ s.acc = 0x00#8 ∧ s.cnt = 0#3) := by
  simp [State.idleClean, imp_iff_not_or, and_assoc]

/-- R26 (b), the check. -/
theorem State.scanSeeded_iff {s : State} :
    s.scanSeeded = true ↔ (s.st = .scan → s.cnt = 0#3 ∧ s.acc = if s.pend then s.sync else 0x00#8) := by
  simp [State.scanSeeded, imp_iff_not_or]

/-- `(pend * SYNC) mod 256` is SYNC or 0. -/
theorem eq_seed_iff {a sync : Byte} {pend : Bool} :
    (a = if pend then sync else 0x00#8) ↔ a.toNat = ((if pend then 1 else 0) * sync.toNat) % 256 := by
  rw [← BitVec.toNat_inj]
  cases pend with
  | false => simp
  | true => simp [Nat.mod_eq_of_lt sync.isLt]

/-- R26 (c), the check. -/
theorem State.payloadSummed_iff {s : State} :
    s.payloadSummed = true ↔
      (s.st = .payload → s.pend = false ∧ s.cnt.toNat ≤ 6 ∧ s.SummedTo s.cnt.toNat s.acc) := by
  cases hread : s.readBytes s.cnt.toNat <;>
    simp [State.payloadSummed, State.SummedTo, hread, imp_iff_not_or, and_assoc]

/-- R26 (d), the check. -/
theorem State.codesUsed_iff {s : State} :
    s.codesUsed = true ↔ s.st ≠ .reserved ∧ s.cnt ≠ 7#3 ∧ s.resStatus ≠ some .reserved := by
  simp [State.codesUsed, and_assoc]

/-- R26 (e), the check. -/
theorem State.resultClosed_iff {s : State} :
    s.resultClosed = true ↔ (s.resValid = true → s.st = .idle ∧ s.resStatus ≠ none) := by
  simp [State.resultClosed, imp_iff_not_or, Option.isSome_iff_ne_none]

/-- R26 (f), the check. -/
theorem State.resultSummed_iff {s : State} :
    s.resultSummed = true ↔
      (s.resValid = true → s.resStatus = some .ok → ∃ ck, s.buf[6] = some ck ∧ s.SummedTo 6 ck) := by
  rw [← and_imp, imp_iff_not_or]
  cases hread : s.readBytes 6 <;> cases hck : s.buf[6] <;>
    simp [State.resultSummed, State.SummedTo, hread, hck, imp_iff_not_or]

/-- R26 with the seed of (b) as a byte and the sums of (c) and (f) as running sums. -/
theorem State.meetsR26_iff {s : State} :
    s.MeetsR26 ↔
      (s.st = .idle → s.pend = false ∧ s.acc = 0x00#8 ∧ s.cnt = 0#3) ∧
      (s.st = .scan → s.cnt = 0#3 ∧ s.acc = if s.pend then s.sync else 0x00#8) ∧
      (s.st = .payload → s.pend = false ∧ s.cnt.toNat ≤ 6 ∧ s.SummedTo s.cnt.toNat s.acc) ∧
      (s.st ≠ .reserved ∧ s.cnt ≠ 7#3 ∧ s.resStatus ≠ some .reserved) ∧
      (s.resValid = true → s.st = .idle ∧ s.resStatus ≠ none) ∧
      (s.resValid = true → s.resStatus = some .ok → ∃ ck, s.buf[6] = some ck ∧ s.SummedTo 6 ck) := by
  have hcnt : s.cnt.toNat ≤ 7 := Nat.le_of_lt_succ s.cnt.isLt
  simp only [eq_seed_iff, State.summedTo_iff hcnt, State.summedTo_iff (show 6 ≤ 7 by omega)]
  constructor
  · rintro ⟨ha, hb, hc, hd, he, hf⟩
    refine ⟨ha, hb, hc, hd, he, fun hv hok => ?_⟩
    obtain ⟨bytes, ck, hlen, hentry, hck, hsum⟩ := hf hv hok
    exact ⟨ck, hck, bytes, hlen, hentry, hsum⟩
  · rintro ⟨ha, hb, hc, hd, he, hf⟩
    refine ⟨ha, hb, hc, hd, he, fun hv hok => ?_⟩
    obtain ⟨ck, hck, bytes, hlen, hentry, hsum⟩ := hf hv hok
    exact ⟨bytes, ck, hlen, hentry, hck, hsum⟩

/-- Settles O43: part by part, the check is the clause of R26, whose sums are the running sum of the buffer. -/
theorem checkSaysR26 : Obligations.CheckSaysR26 := by
  intro s
  rw [State.inv_iff, State.meetsR26_iff, State.idleClean_iff, State.scanSeeded_iff, State.payloadSummed_iff,
    State.codesUsed_iff, State.resultClosed_iff, State.resultSummed_iff]

/-- Settles O44: the check that a step makes first fails in a state that does not meet R26. -/
theorem brokenStateRefused : Obligations.BrokenStateRefused := by
  intro s hbroken
  have hcheck : s.consistent = false := by
    rw [Bool.eq_false_iff]
    exact mt (checkSaysR26 s).mp hbroken
  simp [step, State.fetch, hcheck]

end Sys2Proof.Machine

/-! ### `BYTE` by control state -/

namespace Sys2Proof.Machine

section ByState
variable {s t : State} {d : Byte}

/-- `BYTE` is held in `IDLE` (R52). -/
theorem execByte_of_idle (h : execByte d s = .next t) (hst : s.st = .idle) : t = s.hold := by
  simpa [execByte, hst, eq_comm] using h

/-- `BYTE` in `SCAN` is the scanner's (R100). -/
theorem execByte_of_scan (h : execByte d s = .next t) (hst : s.st = .scan) : t = s.scanByte d := by
  simpa [execByte, hst, eq_comm] using h

/-- `BYTE` in `PAYLOAD` with `cnt <= 5` is the payload reader's (R121). -/
theorem execByte_of_payload (h : execByte d s = .next t) (hst : s.st = .payload) (hle : s.cnt.toNat ≤ 5) :
    t = s.payloadStore d := by
  simpa [execByte, hst, hle, eq_comm] using h

/-- `BYTE` in `PAYLOAD` with `cnt > 5` is the validator's, and `cnt` is 6 (R140, R141). -/
theorem execByte_of_checksum (h : execByte d s = .next t) (hst : s.st = .payload) (hgt : ¬ s.cnt.toNat ≤ 5) :
    s.cnt = 6#3 ∧ t = s.judgeFrame d := by
  by_cases h6 : s.cnt = 6#3
  · simpa [execByte, hst, h6, eq_comm] using h
  · simp [execByte, hst, hgt, h6] at h

/-- What `BYTE d` answers, by `st`: a hold, the scanner, the payload reader or the validator (R100). -/
theorem execByte_next_of_st (h : execByte d s = .next t) :
    (s.st = .idle ∧ t = s.hold) ∨ (s.st = .scan ∧ t = s.scanByte d) ∨
    (s.st = .payload ∧ s.cnt.toNat ≤ 5 ∧ t = s.payloadStore d) ∨
    (s.st = .payload ∧ s.cnt = 6#3 ∧ t = s.judgeFrame d) := by
  cases hst : s.st with
  | idle => exact .inl ⟨rfl, execByte_of_idle h hst⟩
  | scan => exact .inr (.inl ⟨rfl, execByte_of_scan h hst⟩)
  | payload =>
    by_cases hle : s.cnt.toNat ≤ 5
    · exact .inr (.inr (.inl ⟨rfl, hle, execByte_of_payload h hst hle⟩))
    · exact .inr (.inr (.inr ⟨rfl, execByte_of_checksum h hst hle⟩))
  | reserved => simp [execByte, hst] at h

end ByState

section Scanner
variable (s : State) (d : Byte)

@[simp] theorem State.scanByte_chan : (s.scanByte d).chan = s.chan.tail := by
  unfold State.scanByte; split_ifs <;> rfl
@[simp] theorem State.scanByte_buf : (s.scanByte d).buf = s.buf := by
  unfold State.scanByte; split_ifs <;> rfl
@[simp] theorem State.scanByte_resValid : (s.scanByte d).resValid = s.resValid := by
  unfold State.scanByte; split_ifs <;> rfl
@[simp] theorem State.scanByte_resStatus : (s.scanByte d).resStatus = s.resStatus := by
  unfold State.scanByte; split_ifs <;> rfl
@[simp] theorem State.scanByte_sync : (s.scanByte d).sync = s.sync := by
  unfold State.scanByte; split_ifs <;> rfl

/-- The scanner writes `cnt` only where it aligns (R103). -/
theorem State.scanByte_cnt :
    (s.scanByte d).cnt = s.cnt ∨ ((s.scanByte d).st = .payload ∧ (s.scanByte d).cnt = 0#3) := by
  unfold State.scanByte
  split_ifs
  · exact .inr ⟨rfl, rfl⟩
  all_goals exact .inl rfl

/-- The scanner leaves `SCAN` only where it aligns (R103). -/
theorem State.scanByte_st (h : ¬ (s.pend = true ∧ d = s.sync)) : (s.scanByte d).st = s.st := by
  unfold State.scanByte
  split_ifs with hd hpend
  · exact absurd ⟨hpend, hd⟩ h
  all_goals rfl

end Scanner

/-- A matching checksum byte (R140). -/
theorem State.judgeFrame_of_eq {s : State} {d : Byte} (h : d = s.acc) : s.judgeFrame d = s.acceptFrame d := if_pos h

/-- A checksum byte that does not match (R141). -/
theorem State.judgeFrame_of_ne {s : State} {d : Byte} (h : d ≠ s.acc) : s.judgeFrame d = s.rejectFrame d := if_neg h

@[simp] theorem State.judgeFrame_chan (s : State) (d : Byte) : (s.judgeFrame d).chan = s.chan.tail := by
  unfold State.judgeFrame; split_ifs <;> rfl
@[simp] theorem State.judgeFrame_buf (s : State) (d : Byte) : (s.judgeFrame d).buf = (s.bufWrite 6 d).buf := by
  unfold State.judgeFrame; split_ifs <;> rfl

end Sys2Proof.Machine

/-! ### Every step keeps R26 -/

namespace Sys2Proof.Machine

/-- R26 reads the registers and SYNC only. -/
theorem State.MeetsR26.congr {s t : State} (h : s.MeetsR26) (hregs : sameRegisters s t) (hsync : t.sync = s.sync) :
    t.MeetsR26 := by
  obtain ⟨hst, hpend, hacc, hcnt, hbuf, hvalid, hstatus⟩ := hregs
  rw [State.meetsR26_iff] at h ⊢
  simpa only [State.SummedTo, State.readBytes, hst, hpend, hacc, hcnt, hbuf, hvalid, hstatus, hsync] using h

/-- An open decode shows no result (R26 (e)). -/
theorem State.MeetsR26.resValid_of_open {s : State} (h : s.MeetsR26) (hst : s.st ≠ .idle) : s.resValid = false := by
  by_contra hvalid
  exact hst (h.resultClosed (Bool.not_eq_false _ ▸ hvalid)).1

/-- R26 in `SCAN`, with no result shown. -/
theorem State.meetsR26_of_scan {s : State} (hst : s.st = .scan) (hcnt : s.cnt = 0#3)
    (hacc : s.acc = if s.pend then s.sync else 0x00#8) (hvalid : s.resValid = false)
    (hstatus : s.resStatus ≠ some .reserved) : s.MeetsR26 := by
  rw [State.meetsR26_iff]
  simp [hst, hcnt, hacc, hvalid, hstatus]

/-- R26 in `PAYLOAD`, with no result shown. -/
theorem State.meetsR26_of_payload {s : State} (hst : s.st = .payload) (hpend : s.pend = false)
    (hcnt : s.cnt.toNat ≤ 6) (hsum : s.SummedTo s.cnt.toNat s.acc) (hvalid : s.resValid = false)
    (hstatus : s.resStatus ≠ some .reserved) : s.MeetsR26 := by
  have hcnt7 : s.cnt ≠ 7#3 := by bv_omega
  rw [State.meetsR26_iff]
  simp [hst, hpend, hcnt, hsum, hcnt7, hvalid, hstatus]

/-- R26 in `IDLE`, with cleared work registers. -/
theorem State.meetsR26_of_idle {s : State} (hst : s.st = .idle) (hpend : s.pend = false) (hacc : s.acc = 0x00#8)
    (hcnt : s.cnt = 0#3) (hstatus : s.resStatus ≠ some .reserved) (hclosed : s.resValid = true → s.resStatus ≠ none)
    (hsum : s.resValid = true → s.resStatus = some .ok → ∃ ck, s.buf[6] = some ck ∧ s.SummedTo 6 ck) :
    s.MeetsR26 := by
  rw [State.meetsR26_iff]
  exact ⟨fun _ => ⟨hpend, hacc, hcnt⟩, by simp [hst], by simp [hst], ⟨by simp [hst], by simp [hcnt], hstatus⟩,
    fun hvalid => ⟨hst, hclosed hvalid⟩, hsum⟩

/-- Settles O41. -/
theorem resetMeetsR26 : Obligations.ResetMeetsR26 :=
  State.meetsR26_of_idle rfl rfl rfl rfl (by simp [State.reset]) (by simp [State.reset]) (by simp [State.reset])

/-- A byte in `SCAN` keeps R26 (R101 to R104). -/
theorem State.MeetsR26.scanByte {s : State} (h : s.MeetsR26) (hst : s.st = .scan) (d : Byte) :
    (s.scanByte d).MeetsR26 := by
  obtain ⟨-, hscan, -, ⟨-, -, hstatus⟩, -, -⟩ := State.meetsR26_iff.mp h
  obtain ⟨hcnt, hacc⟩ := hscan hst
  have hvalid : s.resValid = false := h.resValid_of_open (by simp [hst])
  unfold State.scanByte
  split_ifs with hd hpend hpend
  · have hmarkers : s.scanAlign.acc = s.sync + s.sync := by simp [State.scanAlign, hacc, hpend]
    refine State.meetsR26_of_payload rfl rfl (by simp [State.scanAlign]) ?_ hvalid hstatus
    rw [hmarkers]
    exact s.scanAlign.summedTo_zero
  · have hseed : s.acc + s.sync = s.sync := by simp [hacc, hpend]
    exact State.meetsR26_of_scan hst hcnt hseed hvalid hstatus
  · exact State.meetsR26_of_scan hst hcnt rfl hvalid hstatus
  · exact State.meetsR26_of_scan hst hcnt rfl hvalid hstatus

/-- Storing a payload byte keeps R26 (R121). -/
theorem State.MeetsR26.payloadStore {s : State} (h : s.MeetsR26) (hst : s.st = .payload) (hle : s.cnt.toNat ≤ 5)
    (d : Byte) : (s.payloadStore d).MeetsR26 := by
  obtain ⟨-, -, hpayload, ⟨-, -, hstatus⟩, -, -⟩ := State.meetsR26_iff.mp h
  obtain ⟨hpend, -, hsum⟩ := hpayload hst
  have hvalid : s.resValid = false := h.resValid_of_open (by simp [hst])
  have hcnt : (s.payloadStore d).cnt.toNat = s.cnt.toNat + 1 := by
    simp only [State.payloadStore, State.countByte_cnt, State.accumulate_cnt, State.bufWrite_cnt, State.took_cnt,
      State.take_cnt]
    bv_omega
  refine State.meetsR26_of_payload hst hpend (by omega) ?_ hvalid hstatus
  rw [hcnt]
  exact (hsum.bufWrite_next (by omega) d).congr rfl rfl

/-- The judgement of the checksum byte keeps R26 (R140, R141). -/
theorem State.MeetsR26.judgeFrame {s : State} (h : s.MeetsR26) (hst : s.st = .payload) (hcnt : s.cnt = 6#3)
    (d : Byte) : (s.judgeFrame d).MeetsR26 := by
  obtain ⟨-, -, hpayload, ⟨-, -, hstatus⟩, -, -⟩ := State.meetsR26_iff.mp h
  obtain ⟨-, -, hsum⟩ := hpayload hst
  unfold State.judgeFrame
  split_ifs with hd
  · have hsix : s.SummedTo 6 d := by simpa [hcnt, hd] using hsum
    refine State.meetsR26_of_idle rfl rfl rfl rfl (by simp [State.acceptFrame]) (by simp [State.acceptFrame]) ?_
    exact fun _ _ => ⟨d, by simp [State.acceptFrame], (hsix.bufWrite_past d).congr rfl rfl⟩
  · exact State.meetsR26_of_scan rfl rfl rfl (h.resValid_of_open (by simp [hst])) hstatus

/-- A hold keeps R26 (R14). -/
theorem State.MeetsR26.hold {s : State} (h : s.MeetsR26) : s.hold.MeetsR26 :=
  h.congr (by simp [sameRegisters]) rfl

/-- `BYTE` keeps R26. -/
theorem execByte_keeps_meetsR26 {s t : State} {d : Byte} (hs : s.MeetsR26) (h : execByte d s = .next t) :
    t.MeetsR26 := by
  rcases execByte_next_of_st h with ⟨-, rfl⟩ | ⟨hst, rfl⟩ | ⟨hst, hle, rfl⟩ | ⟨hst, hcnt, rfl⟩
  · exact hs.hold
  · exact hs.scanByte hst d
  · exact hs.payloadStore hst hle d
  · exact hs.judgeFrame hst hcnt d

/-- An error token keeps R26 (R201, R202). -/
theorem State.endDecode_keeps_meetsR26 {s t : State} {x : Status} (hx : x = .io ∨ x = .truncated) (hs : s.MeetsR26)
    (h : s.endDecode x = .next t) : t.MeetsR26 := by
  rcases State.endDecode_next h with ⟨-, rfl⟩ | ⟨-, rfl⟩
  · exact hs.hold
  · refine State.meetsR26_of_idle rfl rfl rfl rfl ?_ (by simp) ?_ <;> rcases hx with rfl | rfl <;> simp

/-- `REQ` keeps R26 (R160). -/
theorem execReq_keeps_meetsR26 {s t : State} (hs : s.MeetsR26) (h : execReq s = .next t) : t.MeetsR26 := by
  rcases execReq_next h with ⟨-, rfl⟩ | ⟨-, rfl⟩
  · obtain ⟨-, -, hstatus⟩ := hs.codesUsed
    exact State.meetsR26_of_scan rfl rfl rfl rfl hstatus
  · exact hs.hold

/-- `RESET` brings R26 about in every state (R240). -/
theorem State.resetRegisters_meetsR26 (s : State) : s.resetRegisters.MeetsR26 :=
  State.meetsR26_of_idle rfl rfl rfl rfl (by simp) (by simp) (by simp)

/-- Every event's meaning keeps R26. -/
theorem exec_keeps_meetsR26 {s t : State} {i : Instr} (hs : s.MeetsR26) (h : exec i s = .next t) : t.MeetsR26 := by
  cases i with
  | byte d => exact execByte_keeps_meetsR26 hs h
  | eos => exact State.endDecode_keeps_meetsR26 (.inr rfl) hs h
  | ioerr => exact State.endDecode_keeps_meetsR26 (.inl rfl) hs h
  | req => exact execReq_keeps_meetsR26 hs h
  | reset => exact execReset_next h ▸ State.resetRegisters_meetsR26 _

/-- The host's moves write no register (R61). -/
theorem State.deliver_sameRegisters {s u : State} (h : s.deliver = .ok u) : sameRegisters s u := by
  obtain ⟨more, q, r, rfl⟩ := State.deliver_form h
  simp [sameRegisters]

/-- The host's moves keep R26. -/
theorem State.MeetsR26.deliver {s u : State} (hs : s.MeetsR26) (h : s.deliver = .ok u) : u.MeetsR26 :=
  hs.congr (State.deliver_sameRegisters h) (State.deliver_sync h)

/-- Settles O42: the host's moves write no register, and each event's meaning keeps R26 in its own cases. -/
theorem stepKeepsR26 : Obligations.StepKeepsR26 := by
  intro s t hs h
  obtain ⟨-, u, hdeliver, ⟨-, rfl⟩ | ⟨i, -, hexec⟩⟩ := step_next h
  · exact (hs.deliver hdeliver).congr (by simp [sameRegisters]) rfl
  · exact exec_keeps_meetsR26 (hs.deliver hdeliver) hexec

end Sys2Proof.Machine

/-! ### The frame outputs (R31 to R33) -/

namespace Sys2Proof.Machine

/-- Settles O28. -/
theorem frameOutputsOnlyAfterOk : Obligations.FrameOutputsOnlyAfterOk := by
  intro s hnot
  rw [← State.frameShown_iff, Bool.not_eq_true] at hnot
  exact State.noFrame_of_not_shown hnot

/-- Settles O29: each byte output is the buffer entry of its name (R23). -/
theorem frameFieldOutputs : Obligations.FrameFieldOutputs := by
  intro s hvalid hok
  have hshown : s.frameShown = true := State.frameShown_iff.mpr ⟨hvalid, hok⟩
  have hfield : ∀ f, s.field f = s.buf[f.index] := fun f => if_pos hshown
  exact ⟨hfield .dl, hfield .dh, hfield .sl, hfield .sh, hfield .it, hfield .sp, hfield .ck, if_pos hshown,
    if_pos hshown⟩

/-- No frame output without a result. -/
theorem State.noFrame_of_resValid {s : State} (h : s.resValid = false) : s.noFrame :=
  State.noFrame_of_not_shown (by simp [State.frameShown, h])

/-- No frame output after a completion other than `OK`. -/
theorem State.noFrame_of_resStatus {s : State} (h : s.resStatus ≠ some .ok) : s.noFrame :=
  State.noFrame_of_not_shown (by simp [State.frameShown, h])

/-- No frame output while a decode is open (R33). -/
theorem State.MeetsR26.noFrame_of_open {s : State} (h : s.MeetsR26) (hst : s.st ≠ .idle) : s.noFrame :=
  State.noFrame_of_resValid (h.resValid_of_open hst)

/-- The frame outputs read the buffer, the result and SYNC only. -/
theorem sameFrameOutputs_of_eq {s t : State} (hbuf : t.buf = s.buf) (hvalid : t.resValid = s.resValid)
    (hstatus : t.resStatus = s.resStatus) (hsync : t.sync = s.sync) : sameFrameOutputs s t := by
  have hshown : t.frameShown = s.frameShown := by rw [State.frameShown, hvalid, hstatus, State.frameShown]
  have hfield : ∀ f, t.field f = s.field f := fun f => by rw [State.field, hshown, hbuf, State.field]
  refine ⟨hfield, ?_, ?_, ?_, ?_, ?_⟩
  · rw [State.mark0, hshown, hsync, State.mark0]
  · rw [State.mark1, hshown, hsync, State.mark1]
  · simp only [State.distance, State.distHi, State.distLo, hfield]
  · simp only [State.strength, State.strHi, State.strLo, hfield]
  · simp only [State.frame, State.readBytes, hshown, hbuf, hsync]

/-- Two states without frame outputs have the same ones. -/
theorem State.noFrame.same {s t : State} (hs : s.noFrame) (ht : t.noFrame) : sameFrameOutputs s t := by
  obtain ⟨hsf, hs0, hs1, hsd, hss, hsb⟩ := hs
  obtain ⟨htf, ht0, ht1, htd, hts, htb⟩ := ht
  exact ⟨fun f => (htf f).trans (hsf f).symm, ht0.trans hs0.symm, ht1.trans hs1.symm, htd.trans hsd.symm,
    hts.trans hss.symm, htb.trans hsb.symm⟩

/-- A hold changes no frame output (R14). -/
theorem State.hold_sameFrameOutputs (s : State) : sameFrameOutputs s s.hold := sameFrameOutputs_of_eq rfl rfl rfl rfl

/-- The frame outputs change at the events that R33 names: an `OK` completion, the acceptance of a `REQ`, a `RESET`. -/
inductive FrameOutputsEvent (s t : State) (i : Instr) : Prop where
  | ok (hst : s.st = .payload) (hidle : t.st = .idle) (hvalid : t.resValid = true) (hok : t.resStatus = some .ok)
  | req (hst : s.st = .idle) (hscan : t.st = .scan) (hnone : t.noFrame)
  | reset (hi : i = .reset) (hnone : t.noFrame)

/-- `BYTE` changes the frame outputs only where it completes with `OK`. -/
theorem execByte_frameOutputs {s t : State} {d : Byte} (hs : s.MeetsR26) (h : execByte d s = .next t) :
    sameFrameOutputs s t ∨ FrameOutputsEvent s t (.byte d) := by
  rcases execByte_next_of_st h with ⟨-, rfl⟩ | ⟨hst, rfl⟩ | ⟨hst, -, rfl⟩ | ⟨hst, -, rfl⟩
  · exact .inl s.hold_sameFrameOutputs
  · exact .inl (sameFrameOutputs_of_eq (by simp) (by simp) (by simp) (by simp))
  · have hopen : s.st ≠ .idle := by simp [hst]
    exact .inl ((hs.noFrame_of_open hopen).same (State.noFrame_of_resValid (hs.resValid_of_open hopen)))
  · have hopen : s.st ≠ .idle := by simp [hst]
    by_cases hd : d = s.acc
    · rw [State.judgeFrame_of_eq hd]
      exact .inr (.ok hst rfl rfl rfl)
    · rw [State.judgeFrame_of_ne hd]
      exact .inl ((hs.noFrame_of_open hopen).same (State.noFrame_of_resValid (hs.resValid_of_open hopen)))

/-- An error token changes no frame output: none is shown before it, and none after it. -/
theorem State.endDecode_frameOutputs {s t : State} {x : Status} (hx : x ≠ .ok) (hs : s.MeetsR26)
    (h : s.endDecode x = .next t) : sameFrameOutputs s t := by
  rcases State.endDecode_next h with ⟨-, rfl⟩ | ⟨hst, rfl⟩
  · exact s.hold_sameFrameOutputs
  · have hopen : s.st ≠ .idle := by rcases hst with hst | hst <;> simp [hst]
    exact (hs.noFrame_of_open hopen).same (State.noFrame_of_resStatus (by simpa using hx))

/-- An event changes the frame outputs only as R33 says. -/
theorem exec_frameOutputs {s t : State} {i : Instr} (hs : s.MeetsR26) (h : exec i s = .next t) :
    sameFrameOutputs s t ∨ FrameOutputsEvent s t i := by
  cases i with
  | byte d => exact execByte_frameOutputs hs h
  | eos | ioerr => exact .inl (State.endDecode_frameOutputs (by decide) hs h)
  | req =>
    rcases execReq_next h with ⟨hst, rfl⟩ | ⟨-, rfl⟩
    · exact .inr (.req hst rfl (State.noFrame_of_resValid rfl))
    · exact .inl s.hold_sameFrameOutputs
  | reset =>
    obtain rfl := execReset_next h
    exact .inr (.reset rfl (State.noFrame_of_resValid rfl))

/-- `RESET` is selected only where it is offered (R210). -/
theorem State.resetIn_of_selected {s : State} (h : s.selected = some .reset) : s.resetIn = true := by
  rcases State.selected_some h with ⟨hreset, -⟩ | ⟨-, -, hreq, -⟩ | ⟨-, -, k, rest, -, htoken⟩
  · exact hreset
  · cases hreq
  · cases k <;> cases htoken

/-- Settles O33: the host's moves and a wait change no frame output, and the selected event does so only as R33 says. -/
theorem frameOutputsChangeOnly : Obligations.FrameOutputsChangeOnly := by
  refine ⟨fun s t h hchange => ?_, fun s hinv => ((checkSaysR26 s).mp hinv).noFrame_of_open⟩
  obtain ⟨hinv, u, hdeliver, hcase⟩ := step_next h
  have hu : u.MeetsR26 := ((checkSaysR26 s).mp hinv).deliver hdeliver
  obtain ⟨more, q, r, hform⟩ := State.deliver_form hdeliver
  have hsame : ∀ {v}, sameFrameOutputs u v → sameFrameOutputs s v := by subst hform; exact id
  have hst : u.st = s.st := hform ▸ rfl
  rcases hcase with ⟨-, rfl⟩ | ⟨i, hselected, hexec⟩
  · exact absurd (hsame (sameFrameOutputs_of_eq rfl rfl rfl rfl)) hchange
  · rcases exec_frameOutputs hu hexec with hkept | ⟨hpayload, hidle, hvalid, hok⟩ |
        ⟨hidle, hscan, hnone⟩ | ⟨rfl, hnone⟩
    · exact absurd (hsame hkept) hchange
    · exact .inl ⟨hst ▸ hpayload, hidle, hvalid, hok⟩
    · exact .inr (.inl ⟨hst ▸ hidle, hscan, hnone⟩)
    · exact .inr (.inr ⟨u, hdeliver, State.resetIn_of_selected hselected, hnone⟩)

end Sys2Proof.Machine

/-! ### What each event leaves unchanged -/

namespace Sys2Proof.Machine

section Byte
variable {s t : State} {d : Byte}

/-- A taken `BYTE` is the head of the channel (R14, R51). -/
theorem execByte_chan (h : execByte d s = .next t) (hst : s.st ≠ .idle) : t.chan = s.chan.tail := by
  rcases execByte_next_of_st h with ⟨hidle, -⟩ | ⟨-, rfl⟩ | ⟨-, -, rfl⟩ | ⟨-, -, rfl⟩
  · exact absurd hidle hst
  · exact s.scanByte_chan d
  · rfl
  · exact s.judgeFrame_chan d

/-- Only `BYTE` in `PAYLOAD` writes the buffer (R22). -/
theorem execByte_buf (h : execByte d s = .next t) (hst : s.st ≠ .payload) : t.buf = s.buf := by
  rcases execByte_next_of_st h with ⟨-, rfl⟩ | ⟨-, rfl⟩ | ⟨hpayload, -⟩ | ⟨hpayload, -⟩
  · rfl
  · exact s.scanByte_buf d
  all_goals exact absurd hpayload hst

/-- `BYTE` writes no entry of the buffer but `buf[cnt]` (R121, R140, R141). -/
theorem execByte_buf_getElem (h : execByte d s = .next t) (i : Nat) (hi : i < 7) (hne : i ≠ s.cnt.toNat) :
    t.buf[i] = s.buf[i] := by
  rcases execByte_next_of_st h with ⟨-, rfl⟩ | ⟨-, rfl⟩ | ⟨-, -, rfl⟩ | ⟨-, hcnt, rfl⟩
  · rfl
  · simp
  · exact (State.bufWrite_getElem s.take.took s.cnt.toNat d i hi).trans (if_neg hne)
  · have hsix : i ≠ 6 := by simpa [hcnt] using hne
    simp only [s.judgeFrame_buf, s.bufWrite_getElem, if_neg hsix]

/-- `BYTE` writes the result only at a matching checksum byte (R140). -/
theorem execByte_result (h : execByte d s = .next t) (hno : ¬ (s.st = .payload ∧ s.cnt = 6#3 ∧ d = s.acc)) :
    t.resValid = s.resValid ∧ t.resStatus = s.resStatus := by
  rcases execByte_next_of_st h with ⟨-, rfl⟩ | ⟨-, rfl⟩ | ⟨-, -, rfl⟩ | ⟨hst, hcnt, rfl⟩
  · exact ⟨rfl, rfl⟩
  · exact ⟨s.scanByte_resValid d, s.scanByte_resStatus d⟩
  · exact ⟨rfl, rfl⟩
  · rw [State.judgeFrame_of_ne fun hd => hno ⟨hst, hcnt, hd⟩]
    exact ⟨rfl, rfl⟩

end Byte

/-- Settles O47, clause by clause: a hold in `IDLE`, the scanner in `SCAN`, one buffer entry and the work registers in
`PAYLOAD`. -/
theorem byteFrame : Obligations.ByteFrame := by
  intro s t d h
  refine ⟨execByte_sameHost h, fun hst => ?_, execByte_chan h, execByte_buf h, fun hst => ?_, execByte_buf_getElem h,
    execByte_result h, fun hst hle => ?_, fun hst hno => ?_⟩
  · obtain rfl := execByte_of_idle h hst
    simp [sameRegisters]
  · obtain rfl := execByte_of_scan h hst
    exact s.scanByte_cnt d
  · obtain rfl := execByte_of_payload h hst hle
    exact ⟨rfl, rfl⟩
  · obtain rfl := execByte_of_scan h hst
    exact s.scanByte_st d hno

/-- An error token is held in `IDLE`; elsewhere it leaves the buffer and takes the head of the channel (R201, R202). -/
theorem State.endDecode_frame {s t : State} {x : Status} (h : s.endDecode x = .next t) :
    sameHost s t ∧ t.buf = s.buf ∧ (s.st = .idle → sameRegisters s t ∧ t.chan = s.chan) ∧
      (s.st ≠ .idle → t.chan = s.chan.tail) := by
  refine ⟨State.endDecode_sameHost h, ?_⟩
  rcases State.endDecode_next h with ⟨hst, rfl⟩ | ⟨hst, rfl⟩
  · simp [sameRegisters, hst]
  · have hopen : s.st ≠ .idle := by rcases hst with hst | hst <;> simp [hst]
    exact ⟨rfl, fun hidle => absurd hidle hopen, fun _ => rfl⟩

/-- Settles O48: both error tokens end a decode in the same way. -/
theorem errorTokenFrame : Obligations.ErrorTokenFrame := by
  rintro s t i (rfl | rfl) h
  · exact State.endDecode_frame (x := .truncated) h
  · exact State.endDecode_frame (x := .io) h

/-- Settles O49: an accepted `REQ` writes no status and no buffer, and a held one writes nothing. -/
theorem reqFrame : Obligations.ReqFrame := by
  intro s t h
  rcases execReq_next h with ⟨hst, rfl⟩ | ⟨-, rfl⟩
  · exact ⟨rfl, rfl, rfl, rfl, rfl, rfl, fun hopen => absurd hst hopen⟩
  · simp [sameRegisters]

end Sys2Proof.Machine

/-! ### Reset, ready outputs, codes -/

namespace Sys2Proof.Machine

/-- Settles O40: power-on and `RESET` give every register of R22 its reset value, and the outputs follow. -/
theorem resetState : Obligations.ResetState := by
  rintro t (rfl | ⟨s, h⟩)
  · exact ⟨rfl, rfl, rfl, rfl, by simp [State.reset], rfl, rfl, rfl, rfl, rfl, State.noFrame_of_resValid rfl, rfl⟩
  · obtain rfl := execReset_next h
    exact ⟨rfl, rfl, rfl, rfl, by simp, rfl, rfl, rfl, rfl, rfl, State.noFrame_of_resValid rfl, rfl⟩

/-- Settles O46: the ready outputs read `st`, which is none of `IDLE`, `SCAN` and `PAYLOAD` only where R26 (d) fails. -/
theorem readyOutputs : Obligations.ReadyOutputs := by
  refine ⟨fun s => ⟨by simp [State.reqReady], by simp [State.byteReady], rfl⟩, fun s hinv => ?_⟩
  obtain ⟨hused, -, -⟩ := hinv.codes_used
  cases hst : s.st with
  | reserved => exact absurd hst hused
  | idle | scan | payload => simp [State.reqReady, State.byteReady, hst]

/-- No two names of `res_status` share a code. -/
theorem Status.code_injective : Function.Injective Status.code := by
  intro a b h
  cases a <;> cases b <;> simp [Status.code] at h ⊢

/-- No two names of `st` share a code. -/
theorem Ctrl.code_injective : Function.Injective Ctrl.code := by
  intro a b h
  cases a <;> cases b <;> simp [Ctrl.code] at h ⊢

/-- Settles O51. -/
theorem codesOfNames : Obligations.CodesOfNames :=
  ⟨rfl, rfl, rfl, rfl, rfl, rfl, fun _ _ h => Status.code_injective h, fun _ _ h => Ctrl.code_injective h⟩

end Sys2Proof.Machine

/-! ### Tokens on the byte channel (R51 to R54, R58) -/

namespace Sys2Proof.Machine

/-- The host's moves before a step put their tokens at the channel's end, in order (R50, R58). -/
theorem State.deliver_chan {s u : State} (h : s.deliver = .ok u) :
    u.chan = s.chan ++ (s.schedule.headD []).flatMap HostMove.tokens := by
  cases hs : s.schedule with
  | nil =>
    simp only [State.deliver, hs, Except.ok.injEq] at h
    simp [h]
  | cons moves rest =>
    simp only [State.deliver, hs] at h
    exact (State.arriveAll_chan h :)

/-- Where the host makes no move, a step only passes on to the schedule's next entry. -/
theorem State.deliver_of_no_moves {s : State} (h : s.schedule.headD [] = []) :
    s.deliver = .ok { s with schedule := s.schedule.tail } := by
  cases hs : s.schedule with
  | nil =>
    simp only [State.deliver, hs, List.tail_nil]
    rw [← hs]
  | cons moves rest =>
    obtain rfl : moves = [] := by simpa [hs] using h
    simp [State.deliver, hs, State.arriveAll]

/-- No event is selected where none is offered (R54). -/
theorem State.selected_eq_none {s : State} (hchan : s.chan = []) (hreq : s.reqIn = false) (hreset : s.resetIn = false) :
    s.selected = none := by
  simp [State.selected, hchan, hreq, hreset]

/-- A token's port is the byte channel (R30). -/
@[simp] theorem State.readyFor_token (s : State) (k : Token) : s.readyFor k.toInstr = s.byteReady := by
  cases k <;> rfl

/-- `byte_ready` is 0 in `IDLE` (R30, R52). -/
theorem State.st_ne_idle_of_byteReady {s : State} (h : s.byteReady = true) : s.st ≠ .idle := by
  intro hst
  simp [State.byteReady, hst] at h

/-- Every token is held in `IDLE` (R52, R100, R201, R202). -/
theorem exec_token_of_idle {s : State} (hst : s.st = .idle) (k : Token) : exec k.toInstr s = .next s.hold := by
  cases k with
  | byte d => simp [Token.toInstr, exec, execByte, hst]
  | eos => simp [Token.toInstr, exec, execEos, State.endDecode, hst]
  | ioerr => simp [Token.toInstr, exec, execIoerr, State.endDecode, hst]

/-- A token leaves the channel as it is, or is its head and leaves it, the latter only while `byte_ready = 1` (R51, R52). -/
theorem exec_token_chan {s t : State} {k : Token} (h : exec k.toInstr s = .next t) :
    t.chan = s.chan ∨ (s.byteReady = true ∧ t.chan = s.chan.tail) := by
  rcases exec_taken_or_held h with ⟨-, hready⟩ | ⟨rfl, -⟩
  · have hbyte : s.byteReady = true := by simpa using hready
    have hst := State.st_ne_idle_of_byteReady hbyte
    refine .inr ⟨hbyte, ?_⟩
    cases k with
    | byte d => exact execByte_chan h hst
    | eos | ioerr =>
      obtain ⟨-, -, -, htail⟩ := State.endDecode_frame h
      exact htail hst
  · exact .inl rfl

/-- `REQ` takes no token (R160). -/
theorem execReq_chan {s t : State} (h : execReq s = .next t) : t.chan = s.chan := by
  rcases execReq_next h with ⟨-, rfl⟩ | ⟨-, rfl⟩ <;> rfl

/-- The selected event leaves the channel as it is, or takes its head while `byte_ready = 1` (R51, R52, R53). -/
theorem exec_selected_chan {s t : State} {i : Instr} (hsel : s.selected = some i) (h : exec i s = .next t) :
    t.chan = s.chan ∨ (s.byteReady = true ∧ ∃ k, s.chan = k :: t.chan) := by
  rcases State.selected_some hsel with ⟨-, rfl⟩ | ⟨-, -, rfl, -⟩ | ⟨-, -, k, rest, hchan, rfl⟩
  · exact .inl (execReset_next h ▸ rfl)
  · exact .inl (execReq_chan h)
  · exact (exec_token_chan h).imp_right fun ⟨hready, htail⟩ => ⟨hready, k, by rw [htail, hchan, List.tail_cons]⟩

/-- The host's moves do not change `byte_ready` (R61). -/
theorem State.deliver_byteReady {s u : State} (h : s.deliver = .ok u) : u.byteReady = s.byteReady := by
  obtain ⟨hst, -⟩ := State.deliver_sameRegisters h
  simp [State.byteReady, hst]

/-- Settles O8: the host's moves extend the channel at its end, and only the selected event takes from it. -/
theorem tokensTakenInOrder : Obligations.TokensTakenInOrder := by
  intro s t h
  obtain ⟨-, u, hdeliver, hcase⟩ := step_next h
  refine ⟨u, hdeliver, State.deliver_chan hdeliver, ?_⟩
  rcases hcase with ⟨-, rfl⟩ | ⟨i, hselected, hexec⟩
  · exact .inl u.wait_chan
  · exact State.deliver_byteReady hdeliver ▸ exec_selected_chan hselected hexec

/-- Settles O7: no move reaches the ports and no event is selected, so the step is a wait. -/
theorem nothingOfferedBlockWaits : Obligations.NothingOfferedBlockWaits := by
  intro s hinv hchan hreq hreset hmoves
  have hselected : ({ s with schedule := s.schedule.tail } : State).selected = none :=
    State.selected_eq_none hchan hreq hreset
  simp only [step_of_deliver hinv (State.deliver_of_no_moves hmoves), hselected, State.wait]

/-- Settles O27: the three tokens are held alike. -/
theorem tokensHeldWhileIdle : Obligations.TokensHeldWhileIdle := fun _ d hst =>
  ⟨exec_token_of_idle hst (.byte d), exec_token_of_idle hst .eos, exec_token_of_idle hst .ioerr⟩

end Sys2Proof.Machine


/-! ### Event words and their fields (R80 to R83, R86) -/

namespace Sys2Proof

/-- The fields of a word that is put together from fields (R80). -/
@[simp] theorem wordFields_fieldsWord (f : EventFields) : wordFields (fieldsWord f) = f := by
  have hdata : (fieldsWord f).extractLsb' 0 8 = f.data := BitVec.extractLsb'_append_eq_right
  have hkind : (fieldsWord f).extractLsb' 8 2 = f.kind :=
    (BitVec.extractLsb'_append_eq_of_le le_rfl).trans BitVec.extractLsb'_append_eq_right
  have hch : (fieldsWord f).extractLsb' 10 2 = f.ch :=
    (BitVec.extractLsb'_append_eq_of_le (by decide)).trans BitVec.extractLsb'_append_eq_left
  rw [wordFields, hch, hkind, hdata]

/-- A word is put together from its fields: no bit of it is outside them (R80). -/
@[simp] theorem fieldsWord_wordFields (w : Word) : fieldsWord (wordFields w) = w := by
  have hhigh : w.extractLsb' 10 2 ++ w.extractLsb' 8 2 = w.extractLsb' 8 (2 + 2) :=
    BitVec.extractLsb'_append_extractLsb'_eq_extractLsb' rfl
  calc fieldsWord (wordFields w)
    _ = w.extractLsb' 10 2 ++ w.extractLsb' 8 2 ++ w.extractLsb' 0 8 := rfl
    _ = w.extractLsb' 8 (2 + 2) ++ w.extractLsb' 0 8 := by rw [hhigh]
    _ = w := BitVec.extractLsb'_append_extractLsb'

/-- The fields of every event break no check (R81, R86). -/
@[simp] theorem Instr.reserved?_fields (i : Instr) : i.fields.reserved? = none := by
  cases i <;> simp [Instr.fields, EventFields.reserved?]

/-- The fields of every event name it (R80, R81). -/
@[simp] theorem fieldsInstr_fields (i : Instr) : fieldsInstr i.fields = i := by
  cases i <;> simp [Instr.fields, fieldsInstr]

/-- The values of a field of two bits. -/
theorem twoBits_cases (b : BitVec 2) : b = 0b00#2 ∨ b = 0b01#2 ∨ b = 0b10#2 ∨ b = 0b11#2 := by
  revert b
  decide

/-- Fields that break no check are those of the event they name (R80, R86). -/
theorem EventFields.fields_fieldsInstr {f : EventFields} (h : f.reserved? = none) : (fieldsInstr f).fields = f := by
  obtain ⟨ch, kind, data⟩ := f
  rcases twoBits_cases ch with rfl | rfl | rfl | rfl
  on_goal 4 => simp [EventFields.reserved?] at h
  · rcases twoBits_cases kind with rfl | rfl | rfl | rfl <;>
      simp [EventFields.reserved?] at h <;> simp [fieldsInstr, Instr.fields, h]
  all_goals
    obtain ⟨rfl, rfl⟩ : kind = 0b00#2 ∧ data = 0x00#8 := by simpa [EventFields.reserved?, ite_eq_iff] using h
    rfl

/-- A word decodes to the event whose word it is, and to no other (R80 to R83). -/
theorem decode_eq_ok_iff {w : Word} {i : Instr} : decode w = .ok i ↔ encode i = w := by
  constructor
  · intro h
    cases hres : (wordFields w).reserved? with
    | some why => simp [decode, hres] at h
    | none =>
      obtain rfl : fieldsInstr (wordFields w) = i := by simpa [decode, hres] using h
      rw [encode, EventFields.fields_fieldsInstr hres, fieldsWord_wordFields]
  · rintro rfl
    simp [decode, encode]

/-- Decoding gives back the encoded event (R80 to R83). -/
@[simp] theorem decode_encode (i : Instr) : decode (encode i) = .ok i := decode_eq_ok_iff.mpr rfl

/-- Settles O1: one word per event, one event per word that decodes. -/
theorem decodeAndEncodeAgree : Obligations.DecodeAndEncodeAgree :=
  ⟨decode_encode, fun _ _ => decode_eq_ok_iff.mp⟩

/-- Settles O4: each sample word is the word of its event, written out. -/
theorem sampleWordsDecode : Obligations.SampleWordsDecode :=
  ⟨decode_encode (.byte 0x59#8), decode_encode (.byte 0xFF#8), decode_encode .eos, decode_encode .ioerr,
    decode_encode .req, decode_encode .reset⟩

/-! ### The opcode map (R81, R83) -/

/-- The row of `BYTE` selects the words whose upper four bits are 0 (R81). -/
theorem byteRow_selects_iff (w : Word) : w &&& 0xF00#12 = 0x000#12 ↔ encode (.byte (w.extractLsb' 0 8)) = w := by
  obtain ⟨hi, d, rfl⟩ : ∃ (hi : BitVec 4) (d : Byte), w = hi ++ d :=
    ⟨_, _, (BitVec.extractLsb'_append_extractLsb' (w := 4) (len := 8) (x := w)).symm⟩
  have hmask : (hi ++ d) &&& 0xF00#12 = hi ++ 0x00#8 := by
    rw [show 0xF00#12 = BitVec.allOnes 4 ++ 0x00#8 from rfl, BitVec.and_append, BitVec.and_allOnes, BitVec.and_zero]
  have hword : encode (.byte d) = 0x0#4 ++ d := congrArg (· ++ d) (BitVec.zero_append_zero (v := 2) (w := 2))
  have hzero : 0x000#12 = 0x0#4 ++ 0x00#8 := rfl
  rw [hmask, hzero, BitVec.append_left_inj, BitVec.extractLsb'_append_eq_right, hword, BitVec.append_left_inj, eq_comm]

/-- The mask of a row without operand keeps every bit of a word (R81). -/
theorem fullMask_and (w : Word) : w &&& 0xFFF#12 = w := BitVec.and_allOnes

/-- A row of the opcode map selects a word exactly when the word decodes to the row's event (R81, R83). -/
theorem OpcodeRow.selects_iff {r : OpcodeRow} (hr : r ∈ opcodeMap) (w : Word) :
    r.selects w = true ↔ decode w = .ok (r.event (w.extractLsb' 0 8)) := by
  rw [decode_eq_ok_iff]
  simp only [opcodeMap, List.mem_cons, List.not_mem_nil, or_false] at hr
  rcases hr with rfl | rfl | rfl | rfl | rfl
  · simpa [OpcodeRow.selects] using byteRow_selects_iff w
  all_goals
    simp only [OpcodeRow.selects, fullMask_and, beq_iff_eq]
    exact eq_comm

/-- Every event is that of a row which selects its word (R81). -/
theorem exists_row_selects_encode (i : Instr) : ∃ r ∈ opcodeMap, r.selects (encode i) = true := by
  have hrow : Laws.Encoding.Statement i := by
    cases i with
    | byte d => exact Laws.Encoding.byte d
    | eos => exact Laws.Encoding.eos
    | ioerr => exact Laws.Encoding.ioerr
    | req => exact Laws.Encoding.req
    | reset => exact Laws.Encoding.reset
  obtain ⟨-, r, hr, hselects, -⟩ := hrow
  exact ⟨r, hr, hselects⟩

/-- No two rows of the opcode map give the same event (R81). -/
theorem opcodeMap_events_ne : opcodeMap.Pairwise (fun r q => ∀ d : Byte, r.event d ≠ q.event d) := by
  simp [opcodeMap]

/-- The first row that selects a word gives the event it decodes to (R83). -/
theorem find?_selects (w : Word) : (decode w).toOption =
    (opcodeMap.find? (fun r => r.selects w)).map (fun r => r.event (w.extractLsb' 0 8)) := by
  cases hfind : opcodeMap.find? (fun r => r.selects w) with
  | some r =>
    have hselects : r.selects w = true := List.find?_some (p := (OpcodeRow.selects · w)) hfind
    have hdecode := (OpcodeRow.selects_iff (List.mem_of_find?_eq_some hfind) w).mp hselects
    simp [hdecode, Except.toOption]
  | none =>
    cases hdecode : decode w with
    | error why => rfl
    | ok i =>
      obtain ⟨r, hr, hselects⟩ := exists_row_selects_encode i
      rw [decode_eq_ok_iff.mp hdecode] at hselects
      exact absurd hselects (List.find?_eq_none.mp hfind r hr)

/-- Settles O2: a word that two rows select would decode to the events of both. -/
theorem decodeFollowsOpcodeMap : Obligations.DecodeFollowsOpcodeMap := by
  refine ⟨find?_selects, opcodeMap_events_ne.imp_of_mem fun {r q} hr hq hne w ⟨hrw, hqw⟩ => ?_⟩
  have hr := (OpcodeRow.selects_iff hr w).mp hrw
  have hq := (OpcodeRow.selects_iff hq w).mp hqw
  exact hne _ (Except.ok.inj (hr.symm.trans hq))

end Sys2Proof

/-! ### Reserved words (R86) -/

namespace Sys2Proof

/-- Two bit vectors put together from parts are equal exactly when the parts are. -/
theorem bitVec_append_inj {m n : Nat} {a c : BitVec m} {b d : BitVec n} : a ++ b = c ++ d ↔ a = c ∧ b = d := by
  refine ⟨fun h => ⟨?_, ?_⟩, fun ⟨ha, hb⟩ => ha ▸ hb ▸ rfl⟩
  · simpa [BitVec.extractLsb'_append_eq_left] using congrArg (·.extractLsb' n m) h
  · simpa [BitVec.extractLsb'_append_eq_right] using congrArg (·.extractLsb' 0 n) h

/-- The fields that R86 lists are those that break a check. -/
theorem EventFields.reserved?_ne_none_iff {f : EventFields} : f.reserved? ≠ none ↔
    f.ch = 0b11#2 ∨ (f.ch = 0b00#2 ∧ f.kind = 0b11#2) ∨
      (f.ch = 0b00#2 ∧ (f.kind = 0b01#2 ∨ f.kind = 0b10#2) ∧ f.data ≠ 0x00#8) ∨
      ((f.ch = 0b01#2 ∨ f.ch = 0b10#2) ∧ (f.kind ≠ 0b00#2 ∨ f.data ≠ 0x00#8)) := by
  obtain ⟨ch, kind, data⟩ := f
  rcases twoBits_cases ch with rfl | rfl | rfl | rfl
  · rcases twoBits_cases kind with rfl | rfl | rfl | rfl <;> simp [EventFields.reserved?]
  all_goals simp [EventFields.reserved?, ite_eq_iff, imp_iff_not_or]

/-- The test whether a word decodes to no event, for counting, reads its fields only (R83, R86). -/
theorem isNone_toOption_decode (w : Word) : (decode w).toOption.isNone = (wordFields w).reserved?.isSome := by
  cases h : (wordFields w).reserved? <;> simp [decode, h, Except.toOption]

/-- A word decodes to no event exactly when its fields break a check (R83, R86). -/
theorem decode_toOption_eq_none_iff {w : Word} : (decode w).toOption = none ↔ (wordFields w).reserved? ≠ none := by
  rw [← Option.isNone_iff_eq_none, isNone_toOption_decode, Option.isSome_iff_ne_none]

/-- `E[9:0]` is 0 exactly when `kind` and `data` are (R80). -/
theorem lowTen_eq_zero_iff (w : Word) :
    w.extractLsb' 0 10 = 0#10 ↔ w.extractLsb' 8 2 = 0b00#2 ∧ w.extractLsb' 0 8 = 0x00#8 := by
  have hlow : w.extractLsb' 8 2 ++ w.extractLsb' 0 8 = w.extractLsb' 0 10 :=
    BitVec.extractLsb'_append_extractLsb'_eq_extractLsb' (start₁ := 0) (len₁ := 8) rfl
  rw [← hlow, ← bitVec_append_inj, BitVec.zero_append_zero]

/-- The fields of the word `256 * hi + lo` (R80). -/
theorem wordFields_ofNat (hi : Nat) {lo : Nat} (hlo : lo < 256) :
    wordFields (BitVec.ofNat 12 (256 * hi + lo)) = ⟨BitVec.ofNat 2 (hi / 4), BitVec.ofNat 2 hi, BitVec.ofNat 8 lo⟩ := by
  simp only [wordFields, EventFields.mk.injEq]
  refine ⟨?_, ?_, ?_⟩ <;> apply BitVec.eq_of_toNat_eq <;>
    simp only [BitVec.extractLsb'_toNat, BitVec.toNat_ofNat, Nat.shiftRight_eq_div_pow] <;> omega

/-- The checks tell a data byte only from 0 (R86). -/
theorem EventFields.reserved?_data (ch kind : BitVec 2) {d e : Byte} (hd : d ≠ 0x00#8) (he : e ≠ 0x00#8) :
    (EventFields.mk ch kind d).reserved? = (EventFields.mk ch kind e).reserved? := by
  simp [EventFields.reserved?, hd, he]

/-- How many of `0` to `n` have a property that does not tell the numbers above 0 apart. -/
theorem countP_range_of_const {p : Nat → Bool} {n : Nat} (h : ∀ k < n, p (k + 1) = p 1) :
    (List.range (n + 1)).countP p = (p 0).toNat + n * (p 1).toNat := by
  have hrest : (List.range n).countP (p ∘ Nat.succ) = (List.range n).countP fun _ => p 1 :=
    List.countP_congr fun k hk => by simp [h k (List.mem_range.mp hk)]
  rw [List.range_succ_eq_map, List.countP_cons, List.countP_map, hrest]
  cases p 0 <;> cases p 1 <;> simp [add_comm]

/-- Of 256 words with the same `E[11:8]`, the first two say how many are reserved. -/
theorem countP_reserved (hi : Nat) :
    (List.range 256).countP (fun lo => (decode (BitVec.ofNat 12 (256 * hi + lo))).toOption.isNone) =
      (decode (BitVec.ofNat 12 (256 * hi))).toOption.isNone.toNat +
        255 * (decode (BitVec.ofNat 12 (256 * hi + 1))).toOption.isNone.toNat := by
  refine countP_range_of_const (n := 255) fun k hk => ?_
  have hne : BitVec.ofNat 8 (k + 1) ≠ 0x00#8 := by bv_omega
  rw [isNone_toOption_decode, isNone_toOption_decode, wordFields_ofNat hi (by omega), wordFields_ofNat hi (by omega),
    EventFields.reserved?_data _ _ hne (by decide : BitVec.ofNat 8 1 ≠ 0x00#8)]

namespace Machine

/-- The host's moves are refused where one of them offers a reserved word (R86; log entry 14). -/
theorem State.arriveAll_reserved {moves : List HostMove} {w : Word} (hw : (decode w).toOption = none)
    (hmem : HostMove.offer w ∈ moves) : ∀ s : State, ∃ why, s.arriveAll moves = .error why := by
  induction moves with
  | nil => cases hmem
  | cons m rest ih =>
    intro s
    cases harrive : s.arrive m with
    | error why => exact ⟨why, by simp [State.arriveAll, harrive]⟩
    | ok u =>
      rcases List.mem_cons.mp hmem with rfl | hrest
      · cases hdecode : decode w with
        | error why => simp [State.arrive, hdecode] at harrive
        | ok i => simp [hdecode, Except.toOption] at hw
      · simpa [State.arriveAll, harrive] using ih hrest u

/-- A state that meets R26 refuses its step where the host's moves are refused (R86). -/
theorem step_of_deliver_error {s : State} {why : Reserved} (hinv : s.Inv) (h : s.deliver = .error why) :
    step s = .refused (.reservedWord why) := by
  simp [step, State.fetch, show s.consistent = true from hinv, h]

end Machine

/-- Settles O3: the fields' checks say which words are reserved, the first two words of each block of 256 how many,
and the host's moves are refused with the first of them that offers one. -/
theorem reservedWordsRefused : Obligations.ReservedWordsRefused := by
  refine ⟨fun w => ?_, ?_, fun s w before after rest hinv hsched hw => ?_⟩
  · rw [decode_toOption_eq_none_iff, EventFields.reserved?_ne_none_iff]
    simp only [wordFields, ne_eq, lowTen_eq_zero_iff, not_and_or]
  · simp only [← List.countP_eq_length_filter, countP_reserved]
    decide
  · obtain ⟨why, hwhy⟩ := Machine.State.arriveAll_reserved hw (moves := before ++ .offer w :: after) (by simp)
      { s with schedule := rest }
    have hdeliver : s.deliver = .error why := by simpa only [Machine.State.deliver, hsched] using hwhy
    exact ⟨why, Machine.step_of_deliver_error hinv hdeliver⟩

end Sys2Proof

/-! ### The assembled outputs (R73 to R76) -/

namespace Sys2Proof.Machine

/-- The value of two bytes put together is unsigned, the high byte times 256 (R55, R73, R74). -/
theorem assemble_toNat (hi lo : Byte) : (assemble hi lo).toNat = 256 * hi.toNat + lo.toNat := by
  have hlo : lo.toNat < 2 ^ 8 := lo.isLt
  have hhi : hi.toNat < 256 := hi.isLt
  have hshift : (hi.setWidth 16 <<< 8).toNat = hi.toNat <<< 8 := by
    simp only [BitVec.toNat_shiftLeft, BitVec.toNat_setWidth, Nat.shiftLeft_eq]
    omega
  have hlow : (lo.setWidth 16).toNat = lo.toNat := by
    simp only [BitVec.toNat_setWidth]
    omega
  rw [assemble, BitVec.toNat_or, hshift, hlow, ← Nat.shiftLeft_add_eq_or_of_lt hlo, Nat.shiftLeft_eq]
  omega

section Shown
variable {s : State} (hvalid : s.resValid = true) (hok : s.resStatus = some .ok)
include hvalid hok

/-- After `OK` the distance is put together from `buf[1]` and `buf[0]` (R32, R73). -/
theorem State.distance_of_ok {dl dh : Byte} (hdl : s.buf[0] = some dl) (hdh : s.buf[1] = some dh) :
    s.distance = some (assemble dh dl) := by
  obtain ⟨hlo, hhi, -⟩ := frameFieldOutputs s hvalid hok
  rw [State.distance, hlo, hhi, hdl, hdh, assembleOut]

/-- After `OK` the strength is put together from `buf[3]` and `buf[2]` (R32, R74). -/
theorem State.strength_of_ok {sl sh : Byte} (hsl : s.buf[2] = some sl) (hsh : s.buf[3] = some sh) :
    s.strength = some (assemble sh sl) := by
  obtain ⟨-, -, hlo, hhi, -⟩ := frameFieldOutputs s hvalid hok
  rw [State.strength, hlo, hhi, hsl, hsh, assembleOut]

/-- After `OK` the frame bus carries both markers and the seven bytes of the buffer (R76). -/
theorem State.frame_of_ok {b : Vector Byte 7} (hbuf : ∀ (i : Nat) (h : i < 7), s.buf[i] = some b[i]) :
    s.frame = some (busOf (s.sync :: s.sync :: b.toList)) := by
  have hread : s.readBytes 7 = some b.toList :=
    (State.readBytes_eq_some le_rfl).mpr ⟨b.length_toList, fun i h _ => by simp [hbuf i h, h]⟩
  simp [State.frame, State.frameShown_iff.mpr ⟨hvalid, hok⟩, hread]

end Shown

/-- Settles O30: an unsigned 16-bit value is at most 65535. -/
theorem distanceValue : Obligations.DistanceValue := by
  refine ⟨fun s dl dh hvalid hok hdl hdh => ?_, rfl⟩
  exact ⟨_, State.distance_of_ok hvalid hok hdl hdh, rfl, assemble_toNat dh dl, Nat.le_of_lt_succ (BitVec.isLt _)⟩

/-- Settles O31: the strength is put together as the distance is. -/
theorem strengthValue : Obligations.StrengthValue :=
  ⟨fun _ sl sh hvalid hok hsl hsh => ⟨_, State.strength_of_ok hvalid hok hsl hsh, rfl, assemble_toNat sh sl⟩, rfl⟩

/-- The bus of a first byte and of the bytes after it. -/
theorem busOf_cons (b : Byte) (rest : List Byte) : busOf (b :: rest) = (busOf rest <<< 8) ||| b.setWidth 72 := rfl

/-- The low eight bits of a bus are its first byte (R76). -/
theorem busOf_cons_low (b : Byte) (rest : List Byte) : (busOf (b :: rest)).extractLsb' 0 8 = b := by
  ext i hi
  simp [busOf_cons, hi, BitVec.getLsbD_eq_getElem, show i < 72 by omega]

/-- The bits above the low eight are the bus of the later bytes (R76). -/
theorem busOf_cons_high (b : Byte) (rest : List Byte) {k : Nat} (hk : k < 8) :
    (busOf (b :: rest)).extractLsb' (8 * (k + 1)) 8 = (busOf rest).extractLsb' (8 * k) 8 := by
  ext i hi
  have hpast : b.getLsbD (8 * (k + 1) + i) = false := BitVec.getLsbD_of_ge b _ (by omega)
  simp only [busOf_cons, BitVec.getElem_extractLsb', BitVec.getLsbD_or, BitVec.getLsbD_shiftLeft, BitVec.getLsbD_setWidth,
    hpast, show 8 * (k + 1) + i - 8 = 8 * k + i by omega]
  simp [show 8 * (k + 1) + i < 72 by omega, show ¬ 8 * (k + 1) + i < 8 by omega]

/-- Wire byte `k` stands at bits `[8k+7 : 8k]` of the bus (R76). -/
theorem busOf_extractLsb' {bytes : List Byte} {k : Nat} (hk : k < bytes.length) (h9 : k < 9) :
    (busOf bytes).extractLsb' (8 * k) 8 = bytes[k] := by
  induction bytes generalizing k with
  | nil => cases hk
  | cons b rest ih =>
    cases k with
    | zero => exact busOf_cons_low b rest
    | succ k =>
      rw [busOf_cons_high b rest (by omega), List.getElem_cons_succ]
      exact ih (by simpa using hk) (by omega)

/-- Settles O32: the bus is that of the markers and the buffer, byte by byte. -/
theorem frameBusLayout : Obligations.FrameBusLayout := by
  intro s b hvalid hok hbuf
  obtain ⟨-, -, -, -, hitime, hspare, -⟩ := frameFieldOutputs s hvalid hok
  have hbyte : ∀ k (hk : k < 9), (busOf (s.sync :: s.sync :: b.toList)).extractLsb' (8 * k) 8 =
      (s.sync :: s.sync :: b.toList)[k]'(by simpa using hk) := fun k hk => busOf_extractLsb' _ hk
  exact ⟨_, State.frame_of_ok hvalid hok hbuf, hbyte 0 (by decide), hbyte 1 (by decide),
    fun i h => hbyte (i + 2) (by omega),
    State.distance_of_ok hvalid hok (hbuf 0 (by decide)) (hbuf 1 (by decide)),
    State.strength_of_ok hvalid hok (hbuf 2 (by decide)) (hbuf 3 (by decide)),
    hitime.trans (hbuf 4 (by decide)), hspare.trans (hbuf 5 (by decide))⟩

end Sys2Proof.Machine

/-! ### The pseudo-instructions (R90) -/

namespace Sys2Proof.Machine

/-- The frame of six payload bytes, with the checksum byte that `FRAME` gives it (R71, R90). -/
def WireFrame.ofPayload (sync dl dh sl sh it sp : Byte) : WireFrame :=
  ⟨dl, dh, sl, sh, it, sp, checksum sync [dl, dh, sl, sh, it, sp]⟩

/-- The checksum byte of such a frame is the sum of the other eight (R71, R72). -/
theorem WireFrame.ofPayload_valid (sync dl dh sl sh it sp : Byte) :
    (WireFrame.ofPayload sync dl dh sl sh it sp).Valid sync := by
  simp only [WireFrame.Valid, WireFrame.ofPayload, checksum_toNat, List.map_cons, List.map_nil, List.sum_cons,
    List.sum_nil]
  congr 1
  omega

/-- Settles O55: the frame that `FRAME` sends carries its own checksum, `BADFRAME` adds 1 to it. -/
theorem pseudoInstructionsExpand : Obligations.PseudoInstructionsExpand :=
  ⟨fun sync dl dh sl sh it sp => ⟨.ofPayload sync dl dh sl sh it sp, WireFrame.ofPayload_valid sync dl dh sl sh it sp,
    rfl, rfl, rfl, rfl, rfl, rfl, rfl, rfl⟩, fun _ _ => rfl, by decide⟩

end Sys2Proof.Machine

/-! ### The header scanner (R100 to R105, R107) -/

namespace Sys2Proof.Machine

/-- `BYTE` in `SCAN` is answered by the scanner (R100). -/
theorem exec_byte_of_scan {s : State} (hst : s.st = .scan) (d : Byte) : exec (.byte d) s = .next (s.scanByte d) := by
  simp [exec, execByte, hst]

/-- R26 (b): in `SCAN` the accumulator holds the pending sync byte, or nothing. -/
theorem State.Inv.scan_acc {s : State} (h : s.Inv) (hst : s.st = .scan) :
    s.acc = if s.pend then s.sync else 0x00#8 := by
  obtain ⟨-, hscan, -⟩ := State.inv_iff.mp h
  exact (State.scanSeeded_iff.mp hscan hst).2

/-- Two sync bytes add up to the seed `(2 * SYNC) mod 256` (R103). -/
theorem sync_add_sync_toNat (sync : Byte) : (sync + sync).toNat = (2 * sync.toNat) % 256 := by
  rw [BitVec.toNat_add, two_mul]

section ScanCases
variable {s : State} {d : Byte}

/-- The first sync byte (R101). -/
theorem State.scanByte_of_firstSync (hpend : s.pend = false) (hd : d = s.sync) : s.scanByte d = s.scanFirstSync := by
  simp [State.scanByte, hpend, hd]

/-- A non-sync byte with nothing pending (R102). -/
theorem State.scanByte_of_noise (hpend : s.pend = false) (hd : d ≠ s.sync) : s.scanByte d = s.scanNoise := by
  simp [State.scanByte, hpend, hd]

/-- The second sync byte (R103). -/
theorem State.scanByte_of_secondSync (hpend : s.pend = true) (hd : d = s.sync) : s.scanByte d = s.scanAlign := by
  simp [State.scanByte, hpend, hd]

/-- A non-sync byte after a pending one (R104). -/
theorem State.scanByte_of_break (hpend : s.pend = true) (hd : d ≠ s.sync) : s.scanByte d = s.scanBreak := by
  simp [State.scanByte, hpend, hd]

end ScanCases

/-- Settles O10: R26 (b) has 0 in the accumulator while nothing is pending. -/
theorem byteFirstSync : Obligations.ByteFirstSync := by
  intro s d hst hpend hd
  rw [exec_byte_of_scan hst, State.scanByte_of_firstSync hpend hd]
  exact ⟨rfl, fun hinv => by simp [hinv.scan_acc hst, hpend]⟩

/-- Settles O11: R26 (b) has 0 in the accumulator while nothing is pending. -/
theorem byteNoise : Obligations.ByteNoise := by
  intro s d hst hpend hd
  rw [exec_byte_of_scan hst, State.scanByte_of_noise hpend hd]
  exact ⟨rfl, fun hinv => by simp [hinv.scan_acc hst, hpend]⟩

/-- Settles O12: R26 (b) has SYNC in the accumulator while a sync byte is pending. -/
theorem byteSecondSyncAligns : Obligations.ByteSecondSyncAligns := by
  intro s d hst hpend hd
  rw [exec_byte_of_scan hst, State.scanByte_of_secondSync hpend hd]
  refine ⟨rfl, fun hinv => ?_⟩
  have hacc : s.acc = s.sync := by simp [hinv.scan_acc hst, hpend]
  rw [hacc, sync_add_sync_toNat]

/-- Settles O13. -/
theorem byteBreaksPair : Obligations.ByteBreaksPair := by
  intro s d hst hpend hd
  rw [exec_byte_of_scan hst, State.scanByte_of_break hpend hd]
  rfl

/-! ### Alignment (R105) -/

/-- The scanner enters `PAYLOAD` only at a sync byte with a sync byte pending (R103). -/
theorem State.scanByte_enters_payload {s : State} {d : Byte} (hst : s.st ≠ .payload)
    (hpayload : (s.scanByte d).st = .payload) : s.pend = true ∧ d = s.sync := by
  by_contra hno
  exact hst (State.scanByte_st s d hno ▸ hpayload)

/-- `BYTE` enters `PAYLOAD` only from `SCAN`, by aligning (R105). -/
theorem execByte_enters_payload {s t : State} {d : Byte} (h : execByte d s = .next t) (hst : s.st ≠ .payload)
    (hpayload : t.st = .payload) : s.st = .scan ∧ s.pend = true ∧ d = s.sync ∧ t = s.scanAlign := by
  rcases execByte_next_of_st h with ⟨-, rfl⟩ | ⟨hscan, rfl⟩ | ⟨hin, -⟩ | ⟨hin, -⟩
  · exact absurd hpayload hst
  · obtain ⟨hpend, hd⟩ := State.scanByte_enters_payload hst hpayload
    exact ⟨hscan, hpend, hd, State.scanByte_of_secondSync hpend hd⟩
  all_goals exact absurd hin hst

/-- The only event that enters `PAYLOAD` is a sync byte in `SCAN` with a sync byte pending (R105). -/
theorem exec_enters_payload {s t : State} {i : Instr} (h : exec i s = .next t) (hst : s.st ≠ .payload)
    (hpayload : t.st = .payload) : s.st = .scan ∧ s.pend = true ∧ i = .byte s.sync ∧ t = s.scanAlign := by
  cases i with
  | byte d =>
    obtain ⟨hscan, hpend, rfl, rfl⟩ := execByte_enters_payload h hst hpayload
    exact ⟨hscan, hpend, rfl, rfl⟩
  | eos | ioerr =>
    rcases State.endDecode_next h with ⟨-, rfl⟩ | ⟨-, rfl⟩
    · exact absurd hpayload hst
    · cases hpayload
  | req =>
    rcases execReq_next h with ⟨-, rfl⟩ | ⟨-, rfl⟩
    · cases hpayload
    · exact absurd hpayload hst
  | reset =>
    obtain rfl := execReset_next h
    cases hpayload

/-- A selected byte is the head of the channel (R51, R210). -/
theorem State.chan_of_selected_byte {s : State} {d : Byte} (h : s.selected = some (.byte d)) :
    ∃ rest, s.chan = .byte d :: rest := by
  rcases State.selected_some h with ⟨-, hreset⟩ | ⟨-, -, hreq, -⟩ | ⟨-, -, k, rest, hchan, htoken⟩
  · cases hreset
  · cases hreq
  · cases k <;> cases htoken
    exact ⟨rest, hchan⟩

/-- Settles O14: the selected event is the aligning byte, and R26 (b) has SYNC in the accumulator before it. -/
theorem alignmentNeedsTwoSyncs : Obligations.AlignmentNeedsTwoSyncs := by
  intro s t h hopen hpayload
  obtain ⟨(hinv : s.Inv), u, hdeliver, hcase⟩ := step_next h
  obtain ⟨hst, hpend, hacc, -⟩ := State.deliver_sameRegisters hdeliver
  have hu : u.st ≠ .payload := hst ▸ hopen
  rcases hcase with ⟨-, rfl⟩ | ⟨i, hselected, hexec⟩
  · exact absurd hpayload hu
  · obtain ⟨hscan, hpending, rfl, rfl⟩ := exec_enters_payload hexec hu hpayload
    obtain ⟨rest, hchan⟩ := State.chan_of_selected_byte hselected
    have hsync : u.sync = s.sync := State.deliver_sync hdeliver
    have hseed : s.acc = s.sync := by simp [hinv.scan_acc (hst ▸ hscan), ← hpend, hpending]
    refine ⟨hst ▸ hscan, hpend ▸ hpending, ⟨u, hdeliver, ?_⟩, ?_, rfl, rfl⟩
    · simp [State.scanAlign, hchan, hsync]
    · simp [State.scanAlign, hacc, hseed, hsync, ← sync_add_sync_toNat]

/-! ### No sync pair, no frame (R107) -/

/-- A property of states that every step answers and keeps holds after every run. -/
theorem runSteps_of_step_keeps {P : State → Prop} (hkeep : ∀ s, P s → ∃ t, step s = .next t ∧ P t) {s : State}
    (hs : P s) (n : Nat) : ∃ t, runSteps n s = .next t ∧ P t := by
  induction n generalizing s with
  | zero => exact ⟨s, rfl, hs⟩
  | succ n ih =>
    obtain ⟨t, hstep, ht⟩ := hkeep s hs
    rw [runSteps_succ hstep]
    exact ih ht

/-- No two consecutive bytes of the list equal SYNC (R107). -/
def NoSyncPair (sync : Byte) (bytes : List Byte) : Prop :=
  ∀ k : Nat, ¬ (bytes[k]? = some sync ∧ bytes[k + 1]? = some sync)

/-- What is left of a list without a sync pair has none. -/
theorem NoSyncPair.of_suffix {sync : Byte} {later bytes : List Byte} (h : NoSyncPair sync bytes)
    (hsuffix : later <:+ bytes) : NoSyncPair sync later := by
  obtain ⟨before, rfl⟩ := hsuffix
  intro k hpair
  refine h (before.length + k) ?_
  simpa [List.getElem?_append_right, Nat.add_assoc] using hpair

/-- The sync byte that is pending, if one is. -/
def State.pendingBytes (s : State) : List Byte := if s.pend then [s.sync] else []

/-- The scanner sets the flag at a sync byte with nothing pending, and clears it at every other byte (R101 to R104). -/
theorem State.scanByte_pend (s : State) (d : Byte) : (s.scanByte d).pend = (decide (d = s.sync) && !s.pend) := by
  unfold State.scanByte
  split_ifs with hd hpend hpend
  · simp [hpend, State.scanAlign]
  · simp [hd, hpend, State.scanFirstSync]
  · simp [hd, State.scanBreak]
  · simp [hd, State.scanNoise]

/-- What the scanner keeps pending is the byte that it took, or nothing. -/
theorem State.pendingBytes_scanByte_suffix (s : State) (d : Byte) (rest : List Byte) :
    (s.scanByte d).pendingBytes ++ rest <:+ s.pendingBytes ++ d :: rest := by
  have hkept : (s.scanByte d).pendingBytes <:+ [d] := by
    unfold State.pendingBytes
    rw [State.scanByte_pend, State.scanByte_sync]
    split_ifs with hkeeps
    · have hd : d = s.sync := by simpa using (Bool.and_eq_true_iff.mp hkeeps).1
      rw [hd]
    · exact List.nil_suffix
  obtain ⟨dropped, hdropped⟩ := hkept
  refine ⟨s.pendingBytes ++ dropped, ?_⟩
  rw [List.append_assoc, ← List.append_assoc dropped, hdropped, List.singleton_append]

/-- A byte that makes no pair with a pending sync byte does not align. -/
theorem State.not_pair_of_noSyncPair {s : State} {d : Byte} {rest : List Byte}
    (h : NoSyncPair s.sync (s.pendingBytes ++ d :: rest)) : ¬ (s.pend = true ∧ d = s.sync) := by
  rintro ⟨hpend, rfl⟩
  exact h 0 (by simp [State.pendingBytes, hpend])

/-- The block is in `SCAN`, and all that it will ever be offered are the bytes on the channel, which make no sync pair,
the pending one counted first (R107). -/
structure State.ScansNoPair (s : State) (bytes : List Byte) : Prop where
  inv : s.Inv
  scan : s.st = .scan
  host : s.onlyChannel
  chan : s.chan = bytes.map .byte
  noPair : NoSyncPair s.sync (s.pendingBytes ++ bytes)

namespace State.ScansNoPair
variable {s : State}

/-- With no byte left the block waits, in the same registers. -/
theorem step_nil (h : s.ScansNoPair []) : ∃ t, step s = .next t ∧ t.ScansNoPair [] := by
  obtain ⟨hinv, hscan, ⟨hreq, hreset, hsched⟩, hchan, hnoPair⟩ := h
  exact ⟨_, nothingOfferedBlockWaits s hinv hchan hreq hreset (by simp [hsched]), hinv, hscan,
    ⟨hreq, hreset, by simp [hsched]⟩, hchan, hnoPair⟩

/-- The next byte goes to the scanner. -/
theorem step_eq_scanByte {d : Byte} {rest : List Byte} (h : s.ScansNoPair (d :: rest)) :
    step s = .next (s.scanByte d) := by
  obtain ⟨hinv, hscan, ⟨hreq, hreset, hsched⟩, hchan, -⟩ := h
  have hdeliver : s.deliver = .ok s := by simp [State.deliver, hsched]
  have hselected : s.selected = some (.byte d) := by
    simp [State.selected, State.reqReady, hscan, hreset, hchan, Token.toInstr]
  simp only [step_of_deliver hinv hdeliver, hselected, exec_byte_of_scan hscan]

/-- The scanner takes the next byte and stays in `SCAN`, with no pair ahead. -/
theorem step_cons {d : Byte} {rest : List Byte} (h : s.ScansNoPair (d :: rest)) :
    ∃ t, step s = .next t ∧ t.ScansNoPair rest := by
  have hstep := h.step_eq_scanByte
  obtain ⟨hinv, hscan, ⟨hreq, hreset, hsched⟩, hchan, hnoPair⟩ := h
  obtain ⟨-, hreq', hreset', hsched'⟩ := execByte_sameHost (exec_byte_of_scan hscan d)
  refine ⟨s.scanByte d, hstep, ?_, ?_, ⟨hreq' ▸ hreq, hreset' ▸ hreset, hsched' ▸ hsched⟩, by simp [hchan], ?_⟩
  · exact (checkSaysR26 _).mpr (stepKeepsR26 s _ ((checkSaysR26 s).mp hinv) hstep)
  · exact (s.scanByte_st d (State.not_pair_of_noSyncPair hnoPair)).trans hscan
  · rw [State.scanByte_sync]
    exact hnoPair.of_suffix (s.pendingBytes_scanByte_suffix d rest)

/-- A step over bytes without a sync pair leaves bytes without a sync pair. -/
theorem step_keeps (h : ∃ bytes, s.ScansNoPair bytes) : ∃ t, step s = .next t ∧ ∃ bytes, t.ScansNoPair bytes := by
  obtain ⟨bytes, h⟩ := h
  cases bytes with
  | nil => exact h.step_nil.imp fun _ => And.imp_right fun ht => ⟨[], ht⟩
  | cons d rest => exact h.step_cons.imp fun _ => And.imp_right fun ht => ⟨rest, ht⟩

end State.ScansNoPair

/-- Settles O15: that no pair is ahead is kept by every step, and an open decode shows no result (R26 (e)). -/
theorem noSyncPairNoFrame : Obligations.NoSyncPairNoFrame := by
  intro s bytes hinv hscan hhost hchan hnoPair n
  obtain ⟨t, hrun, _, ht⟩ := runSteps_of_step_keeps (P := fun s => ∃ bytes, s.ScansNoPair bytes)
    (fun _ => State.ScansNoPair.step_keeps) ⟨bytes, hinv, hscan, hhost, hchan, hnoPair⟩ n
  exact ⟨t, hrun, ht.scan, ((checkSaysR26 t).mp ht.inv).resValid_of_open (by simp [ht.scan])⟩

end Sys2Proof.Machine

/-! ### The payload reader (R121) -/

namespace Sys2Proof.Machine

/-- `BYTE` in `PAYLOAD` with `cnt <= 5` is answered by the payload reader (R121). -/
theorem exec_byte_of_payload {s : State} (hst : s.st = .payload) (hle : s.cnt.toNat ≤ 5) (d : Byte) :
    exec (.byte d) s = .next (s.payloadStore d) := by
  simp [exec, execByte, hst, hle]

/-- The payload reader writes `buf[cnt]` and no other entry (R121). -/
theorem State.payloadStore_buf_getElem (s : State) (d : Byte) (i : Nat) (h : i < 7) :
    (s.payloadStore d).buf[i] = if i = s.cnt.toNat then some d else s.buf[i] :=
  State.bufWrite_getElem s.take.took s.cnt.toNat d i h

/-- The payload reader adds the byte to the accumulator modulo 256 (R121). -/
theorem State.payloadStore_acc_toNat (s : State) (d : Byte) :
    (s.payloadStore d).acc.toNat = (s.acc.toNat + d.toNat) % 256 :=
  BitVec.toNat_add s.acc d

/-- The payload reader counts the byte, and the count does not wrap (R121). -/
theorem State.payloadStore_cnt_toNat {s : State} (hle : s.cnt.toNat ≤ 5) (d : Byte) :
    (s.payloadStore d).cnt.toNat = s.cnt.toNat + 1 := by
  have hcnt : (s.payloadStore d).cnt = s.cnt + 1#3 := rfl
  bv_omega

/-- Settles O16: the new state keeps R26, whose clause (c) is the sum of the markers and the bytes read, and whose
clause (e) shows no result while the decode is open. -/
theorem payloadByteStored : Obligations.PayloadByteStored := by
  intro s d hst hle
  have hcnt := State.payloadStore_cnt_toNat hle d
  refine ⟨s.payloadStore d, exec_byte_of_payload hst hle d, s.payloadStore_buf_getElem d, s.payloadStore_acc_toNat d,
    hcnt, rfl, rfl, rfl, rfl, rfl, rfl, rfl, ⟨rfl, rfl, rfl, rfl⟩, fun hinv => ?_⟩
  have hmeets : (s.payloadStore d).MeetsR26 := ((checkSaysR26 s).mp hinv).payloadStore hst hle d
  have hpayload : (s.payloadStore d).st = .payload := hst
  obtain ⟨-, -, hsum⟩ := hmeets.payloadSummed hpayload
  rw [hcnt] at hsum
  exact ⟨hmeets.noFrame_of_open (by simp [hpayload]), hsum⟩

end Sys2Proof.Machine

/-! ### How an open decode ends (R123, R143, R161, R200) -/

namespace Sys2Proof.Machine

/-- `BYTE` ends an open decode only as a matching checksum byte (R140, R143). -/
theorem execByte_ends_decode {s t : State} {d : Byte} (h : execByte d s = .next t) (hopen : s.st ≠ .idle)
    (hidle : t.st = .idle) : s.st = .payload ∧ s.cnt = 6#3 ∧ d = s.acc ∧ t = s.acceptFrame d := by
  rcases execByte_next h with ⟨hst, -⟩ | ⟨-, -, -, rfl⟩ | ⟨-, -, -, rfl⟩ | ⟨-, -, -, rfl⟩ | ⟨-, -, -, rfl⟩ |
    ⟨-, -, rfl⟩ | ⟨hst, hcnt, hd, rfl⟩ | ⟨-, -, -, rfl⟩
  · exact absurd hst hopen
  · exact absurd hidle hopen
  · exact absurd hidle hopen
  · cases hidle
  · exact absurd hidle hopen
  · exact absurd hidle hopen
  · exact ⟨hst, hcnt, hd, rfl⟩
  · cases hidle

/-- An error token completes an open decode with its status (R201, R202). -/
theorem State.endDecode_of_open {s t : State} {x : Status} (h : s.endDecode x = .next t) (hopen : s.st ≠ .idle) :
    t = s.take.took.complete x := by
  rcases State.endDecode_next h with ⟨hst, -⟩ | ⟨-, rfl⟩
  · exact absurd hst hopen
  · rfl

/-- `REQ` ends no decode (R161). -/
theorem execReq_keeps_open {s t : State} (h : execReq s = .next t) (hopen : s.st ≠ .idle) : t.st ≠ .idle := by
  rcases execReq_next h with ⟨hst, -⟩ | ⟨-, rfl⟩
  · exact absurd hst hopen
  · exact hopen

/-- A token that ends an open decode is taken and completes it: `EOS` with `TRUNCATED`, `IOERR` with `IO`, or the matching
checksum byte with `OK` (R143, R200). -/
theorem exec_token_ends_decode {s t : State} {k : Token} (h : exec k.toInstr s = .next t) (hopen : s.st ≠ .idle)
    (hidle : t.st = .idle) :
    t.resValid = true ∧ t.chan = s.chan.tail ∧
      ((k = .eos ∧ t.resStatus = some .truncated) ∨ (k = .ioerr ∧ t.resStatus = some .io) ∨
        (k = .byte s.acc ∧ s.st = .payload ∧ s.cnt = 6#3 ∧ t.resStatus = some .ok)) := by
  cases k with
  | byte d =>
    obtain ⟨hst, hcnt, rfl, rfl⟩ := execByte_ends_decode h hopen hidle
    exact ⟨rfl, rfl, .inr (.inr ⟨rfl, hst, hcnt, rfl⟩)⟩
  | eos =>
    obtain rfl := State.endDecode_of_open h hopen
    exact ⟨rfl, rfl, .inl ⟨rfl, rfl⟩⟩
  | ioerr =>
    obtain rfl := State.endDecode_of_open h hopen
    exact ⟨rfl, rfl, .inr (.inl ⟨rfl, rfl⟩)⟩

/-- Settles O25: a wait and a `REQ` end no decode, so the step runs `RESET` or the token at the head of the channel. -/
theorem decodeEndsOnlyByOutcomeOrReset : Obligations.DecodeEndsOnlyByOutcomeOrReset := by
  intro s t h hopen hidle
  obtain ⟨-, u, hdeliver, hcase⟩ := step_next h
  obtain ⟨hst, -, hacc, hcnt, -⟩ := State.deliver_sameRegisters hdeliver
  have hu : u.st ≠ .idle := hst ▸ hopen
  refine ⟨u, hdeliver, ?_⟩
  rcases hcase with ⟨-, rfl⟩ | ⟨i, hselected, hexec⟩
  · exact absurd hidle hu
  · rcases State.selected_some hselected with ⟨hreset, rfl⟩ | ⟨-, -, rfl, -⟩ | ⟨-, -, k, rest, hchan, rfl⟩
    · exact .inl ⟨hreset, execReset_next hexec ▸ rfl⟩
    · exact absurd hidle (execReq_keeps_open hexec hu)
    · obtain ⟨hvalid, htail, hend⟩ := exec_token_ends_decode hexec hu hidle
      rw [hst, hacc, hcnt] at hend
      exact .inr ⟨hvalid, k, by rw [htail, hchan, List.tail_cons], hend⟩

end Sys2Proof.Machine

/-! ### The validator (R140, R141) -/

namespace Sys2Proof.Machine

/-- `BYTE` in `PAYLOAD` with `cnt = 6` is answered by the validator (R122). -/
theorem exec_byte_of_checksum {s : State} (hst : s.st = .payload) (hcnt : s.cnt = 6#3) (d : Byte) :
    exec (.byte d) s = .next (s.judgeFrame d) := by
  simp [exec, execByte, hst, hcnt]

/-- The validator writes `buf[6]` and no other entry, whatever it judges (R140, R141). -/
theorem State.judgeFrame_buf_getElem (s : State) (d : Byte) (i : Nat) (h : i < 7) :
    (s.judgeFrame d).buf[i] = if i = 6 then some d else s.buf[i] := by
  simp only [State.judgeFrame_buf, State.bufWrite_getElem]

/-- After `OK` the assembled outputs have values, because R26 (f) makes the buffer bytes (R31, R73 to R76). -/
theorem State.Inv.assembled_outputs_of_ok {s : State} (h : s.Inv) (hvalid : s.resValid = true)
    (hok : s.resStatus = some .ok) : s.frame ≠ none ∧ s.distance ≠ none ∧ s.strength ≠ none := by
  obtain ⟨-, -, -, hdistance, hstrength, hframe, -⟩ := readOfNoneIsReadersFault s h
  simp only [readOutput_eq_fault_iff, hvalid, hok, and_self, not_true_eq_false, iff_false] at hdistance hstrength hframe
  exact ⟨hframe, hdistance, hstrength⟩

/-- Settles O17: the accepted state keeps R26, whose clause (f) is the sum of the markers and the six payload bytes. -/
theorem checksumMatchCompletes : Obligations.ChecksumMatchCompletes := by
  intro s d hst hcnt hd
  have haccept := State.judgeFrame_of_eq hd
  have hbuf := s.judgeFrame_buf_getElem d
  rw [haccept] at hbuf
  refine ⟨s.acceptFrame d, haccept ▸ exec_byte_of_checksum hst hcnt d, rfl, rfl, rfl, rfl, rfl, rfl, hbuf, rfl, rfl, rfl,
    ⟨rfl, rfl, rfl, rfl⟩, fun f => if_pos rfl, fun hinv => ?_⟩
  have hmeets : (s.acceptFrame d).MeetsR26 := haccept ▸ ((checkSaysR26 s).mp hinv).judgeFrame hst hcnt d
  obtain ⟨bytes, ck, hlen, hentry, hck, hsum⟩ := hmeets.resultSummed rfl rfl
  obtain rfl : d = ck := by simpa [hbuf] using hck
  exact ⟨⟨bytes, hlen, hentry, hsum⟩, State.Inv.assembled_outputs_of_ok ((checkSaysR26 _).mpr hmeets) rfl rfl⟩

/-- Settles O18: the result is kept, and R26 (e) has none while the decode is open. -/
theorem checksumMismatchResyncs : Obligations.ChecksumMismatchResyncs := by
  intro s d hst hcnt hd
  have hreject := State.judgeFrame_of_ne hd
  have hbuf := s.judgeFrame_buf_getElem d
  rw [hreject] at hbuf
  refine ⟨s.rejectFrame d, hreject ▸ exec_byte_of_checksum hst hcnt d, rfl, rfl, rfl, rfl, rfl, rfl, hbuf, rfl, rfl, rfl,
    ⟨rfl, rfl, rfl, rfl⟩, fun hinv => ?_⟩
  have hvalid : s.resValid = false := ((checkSaysR26 s).mp hinv).resValid_of_open (by simp [hst])
  exact ⟨hvalid, State.noFrame_of_resValid hvalid⟩

end Sys2Proof.Machine

/-! ### The strobe of a resync (R144, R145) -/

namespace Sys2Proof.Machine

/-- The scanner is no resync (R144). -/
@[simp] theorem State.scanByte_evResync (s : State) (d : Byte) : (s.scanByte d).evResync = false := by
  unfold State.scanByte; split_ifs <;> rfl

/-- The validator's strobe is 1 exactly where it rejects (R144). -/
theorem State.judgeFrame_evResync_iff {s : State} {d : Byte} : (s.judgeFrame d).evResync = true ↔ d ≠ s.acc := by
  by_cases hd : d = s.acc
  · rw [State.judgeFrame_of_eq hd]
    simp [State.acceptFrame, hd]
  · rw [State.judgeFrame_of_ne hd]
    simp [State.rejectFrame, hd]

/-- `BYTE` raises the strobe exactly where it takes R141. -/
theorem execByte_evResync_iff {s t : State} {d : Byte} (h : execByte d s = .next t) :
    t.evResync = true ↔ s.st = .payload ∧ s.cnt = 6#3 ∧ d ≠ s.acc := by
  rcases execByte_next_of_st h with ⟨hst, rfl⟩ | ⟨hst, rfl⟩ | ⟨-, hle, rfl⟩ | ⟨hst, hcnt, rfl⟩
  · simp [hst]
  · simp [hst]
  · have hcnt : s.cnt ≠ 6#3 := by bv_omega
    simp [hcnt, State.payloadStore]
  · simp [hst, hcnt, State.judgeFrame_evResync_iff]

/-- A meaning raises the strobe exactly where it is that of a checksum byte that does not match (R144). -/
theorem exec_evResync_iff {s t : State} {i : Instr} (h : exec i s = .next t) :
    t.evResync = true ↔ ∃ d, i = .byte d ∧ s.st = .payload ∧ s.cnt = 6#3 ∧ d ≠ s.acc := by
  cases i with
  | byte d => simpa using execByte_evResync_iff h
  | eos | ioerr => rcases State.endDecode_next h with ⟨-, rfl⟩ | ⟨-, rfl⟩ <;> simp
  | req => rcases execReq_next h with ⟨-, rfl⟩ | ⟨-, rfl⟩ <;> simp
  | reset =>
    obtain rfl := execReset_next h
    simp

/-- A byte is selected exactly where it is the head of the channel, no RESET is offered and, in `IDLE`, no REQ (R210). -/
theorem State.selected_byte_iff {s : State} {d : Byte} :
    s.selected = some (.byte d) ↔
      s.resetIn = false ∧ (s.st = .idle → s.reqIn = false) ∧ ∃ rest, s.chan = .byte d :: rest := by
  constructor
  · intro h
    obtain ⟨rest, hchan⟩ := State.chan_of_selected_byte h
    rcases State.selected_some h with ⟨-, hreset⟩ | ⟨-, -, hreq, -⟩ | ⟨hreset, hreq, -⟩
    · cases hreset
    · cases hreq
    · exact ⟨hreset, hreq, rest, hchan⟩
  · rintro ⟨hreset, hreq, rest, hchan⟩
    by_cases hst : s.st = .idle
    · simp [State.selected, State.reqReady, hst, hreset, hreq hst, hchan, Token.toInstr]
    · simp [State.selected, State.reqReady, hst, hreset, hchan, Token.toInstr]

/-- A step raises the strobe exactly where it selects a checksum byte that does not match (R144). -/
theorem step_evResync_iff {s t u : State} (h : step s = .next t) (hdeliver : s.deliver = .ok u) :
    t.evResync = true ↔
      ∃ d, u.selected = some (.byte d) ∧ u.st = .payload ∧ u.cnt = 6#3 ∧ d ≠ u.acc := by
  obtain ⟨-, v, hv, hcase⟩ := step_next h
  obtain rfl : u = v := Except.ok.inj (hdeliver.symm.trans hv)
  rcases hcase with ⟨hnone, rfl⟩ | ⟨i, hselected, hexec⟩
  · simp [hnone]
  · simp only [exec_evResync_iff hexec, hselected, Option.some.injEq]

/-- The registers, the outputs and the parameter of `r`, with the ports and the schedule of `s`. -/
def State.withPortsOf (r s : State) : State :=
  { r with chan := s.chan, reqIn := s.reqIn, resetIn := s.resetIn, schedule := s.schedule }

/-- An offered event reaches its port whatever the registers hold. -/
theorem State.withPortsOf_offered (r s : State) (i : Instr) :
    (r.withPortsOf s).offered i = r.withPortsOf (s.offered i) := by
  cases i <;> rfl

/-- A move of the host does the same to the ports whatever the registers hold. -/
theorem State.withPortsOf_arrive (r s : State) (m : HostMove) :
    (r.withPortsOf s).arrive m = (s.arrive m).map r.withPortsOf := by
  cases m with
  | offer w => cases hw : decode w <;> simp [State.arrive, hw, Except.map, State.withPortsOf_offered]
  | lineError d => rfl

/-- The host's moves do the same to the ports whatever the registers hold. -/
theorem State.withPortsOf_arriveAll (r : State) (moves : List HostMove) (s : State) :
    (r.withPortsOf s).arriveAll moves = (s.arriveAll moves).map r.withPortsOf := by
  induction moves generalizing s with
  | nil => rfl
  | cons m rest ih =>
    cases hm : s.arrive m with
    | error why => simp [State.arriveAll, State.withPortsOf_arrive, hm, Except.map]
    | ok u => simp [State.arriveAll, State.withPortsOf_arrive, hm, Except.map, ih]

/-- What the host does before a step depends on the ports and the schedule only (D2). -/
theorem State.withPortsOf_deliver (r s : State) : (r.withPortsOf s).deliver = s.deliver.map r.withPortsOf := by
  cases hs : s.schedule with
  | nil => simp [State.deliver, State.withPortsOf, hs, Except.map]
  | cons moves rest =>
    have hmoves := r.withPortsOf_arriveAll moves { s with schedule := rest }
    simpa [State.deliver, State.withPortsOf, hs] using hmoves

/-- No meaning reads the strobe (R144). -/
theorem exec_of_evResync (i : Instr) (s : State) (b : Bool) : exec i { s with evResync := b } = exec i s := by
  cases i <;> rfl

/-- No step reads the strobe (R144). -/
theorem step_of_evResync (s : State) (b : Bool) : step { s with evResync := b } = step s := by
  by_cases hinv : s.Inv
  · have hinv' : State.Inv { s with evResync := b } := hinv
    have hports : State.deliver { s with evResync := b } = s.deliver.map (State.withPortsOf { s with evResync := b }) :=
      State.withPortsOf_deliver { s with evResync := b } s
    cases hdeliver : s.deliver with
    | error why =>
      rw [hdeliver] at hports
      rw [step_of_deliver_error hinv hdeliver, step_of_deliver_error hinv' hports]
    | ok u =>
      rw [hdeliver] at hports
      have hu : State.withPortsOf { s with evResync := b } u = { u with evResync := b } := by
        obtain ⟨more, q, r, rfl⟩ := State.deliver_form hdeliver
        rfl
      have hselected : State.selected { u with evResync := b } = u.selected := rfl
      rw [step_of_deliver hinv hdeliver, step_of_deliver hinv' hports, hu, hselected]
      cases u.selected with
      | none => rfl
      | some i => exact exec_of_evResync i u b
  · have hbroken : ¬ s.MeetsR26 := mt (checkSaysR26 s).mpr hinv
    have hbroken' : ¬ State.MeetsR26 { s with evResync := b } := mt (checkSaysR26 _).mpr hinv
    rw [brokenStateRefused _ hbroken, brokenStateRefused _ hbroken']

/-- Settles O19: the byte that is selected is the head of the channel, and a mismatch is seen in registers that the host's
moves do not write. -/
theorem resyncStrobe : Obligations.ResyncStrobe := by
  refine ⟨fun s t h => ?_, step_of_evResync⟩
  obtain ⟨-, u, hdeliver, -⟩ := step_next h
  obtain ⟨hst, -, hacc, hcnt, -⟩ := State.deliver_sameRegisters hdeliver
  rw [step_evResync_iff h hdeliver, hst, hacc, hcnt]
  constructor
  · rintro ⟨d, hselected, hmismatch⟩
    obtain ⟨hreset, -, rest, hchan⟩ := State.selected_byte_iff.mp hselected
    exact ⟨u, d, rest, hdeliver, hreset, hchan, hmismatch⟩
  · rintro ⟨v, d, rest, hv, hreset, hchan, hpayload, hmismatch⟩
    obtain rfl : u = v := Except.ok.inj (hdeliver.symm.trans hv)
    have hopen : u.st ≠ .idle := by simp [hst, hpayload]
    exact ⟨d, State.selected_byte_iff.mpr ⟨hreset, fun hidle => absurd hidle hopen, rest, hchan⟩, hpayload, hmismatch⟩

/-- Settles O20: the strobe is 1 only after R141, which keeps the result, and R26 (e) has none while the decode is open. -/
theorem mismatchIsNoOutcome : Obligations.MismatchIsNoOutcome := by
  intro s t h hstrobe
  obtain ⟨(hinv : s.Inv), u, hdeliver, -⟩ := step_next h
  obtain ⟨hst, -, -, -, -, hvalid, hstatus⟩ := State.deliver_sameRegisters hdeliver
  obtain ⟨d, hselected, hpayload, hcnt, hd⟩ := (step_evResync_iff h hdeliver).mp hstrobe
  simp only [step_of_deliver hinv hdeliver, hselected, exec_byte_of_checksum hpayload hcnt, State.judgeFrame_of_ne hd,
    Host.Outcome.next.injEq] at h
  subst h
  have hopen : s.resValid = false := ((checkSaysR26 s).mp hinv).resValid_of_open (by simp [← hst, hpayload])
  exact ⟨rfl, hvalid.trans hopen, hstatus, State.noFrame_of_resValid (hvalid.trans hopen)⟩

end Sys2Proof.Machine

/-! ### A frame on the channel (R147, R148) -/

namespace Sys2Proof.Machine

/-- The host makes no move before any of the next `n` steps: each entry is empty or past the schedule's end (log entry 6). -/
def NoMovesFor (n : Nat) (schedule : List (List HostMove)) : Prop := ∀ k < n, schedule.getD k [] = []

section NoMoves
variable {n : Nat} {schedule : List (List HostMove)}

theorem NoMovesFor.head (h : NoMovesFor (n + 1) schedule) : schedule.headD [] = [] := by
  have hfirst := h 0 n.succ_pos
  cases schedule with
  | nil => rfl
  | cons moves rest => exact hfirst

theorem NoMovesFor.tail (h : NoMovesFor (n + 1) schedule) : NoMovesFor n schedule.tail := by
  intro k hk
  have hnext := h (k + 1) (Nat.succ_lt_succ hk)
  cases schedule with
  | nil => rfl
  | cons moves rest => exact hnext

theorem NoMovesFor.mono {m : Nat} (h : NoMovesFor n schedule) (hmn : m ≤ n) : NoMovesFor m schedule :=
  fun k hk => h k (hk.trans_le hmn)

theorem NoMovesFor.drop (h : NoMovesFor n schedule) (m : Nat) : NoMovesFor (n - m) (schedule.drop m) :=
  fun k hk => by simpa using h (m + k) (by omega)

theorem noMovesFor_nil (n : Nat) : NoMovesFor n [] := fun _ _ => rfl

end NoMoves

/-- The state meets R26, and of all ports only the byte channel carries an offer, as given: the host's side of a run over
tokens. -/
structure State.OffersTokens (s : State) (sync : Byte) (chan : List Token) (schedule : List (List HostMove)) : Prop where
  inv : s.Inv
  sync_eq : s.sync = sync
  chan_eq : s.chan = chan
  noReq : s.reqIn = false
  noReset : s.resetIn = false
  schedule_eq : s.schedule = schedule

/-- A taken byte leaves the channel, and nothing else of the host's side changes. -/
theorem State.OffersTokens.exec_byte {s t : State} {sync d : Byte} {rest : List Token} {schedule : List (List HostMove)}
    (h : s.OffersTokens sync (.byte d :: rest) schedule) (hst : s.st ≠ .idle) (hexec : exec (.byte d) s = .next t) :
    t.OffersTokens sync rest schedule := by
  obtain ⟨hsync, hreq, hreset, hsched⟩ := execByte_sameHost hexec
  have hmeets := exec_keeps_meetsR26 ((checkSaysR26 s).mp h.inv) hexec
  exact ⟨(checkSaysR26 t).mpr hmeets, hsync.trans h.sync_eq, by rw [execByte_chan hexec hst, h.chan_eq, List.tail_cons],
    hreq.trans h.noReq, hreset.trans h.noReset, hsched.trans h.schedule_eq⟩

/-- Where the host makes no move, a step of an open decode runs the byte at the head of the channel, in the same registers
(R210). -/
theorem State.OffersTokens.step_byte {s : State} {sync d : Byte} {rest : List Token} {schedule : List (List HostMove)}
    (h : s.OffersTokens sync (.byte d :: rest) schedule) (hst : s.st ≠ .idle) (hmoves : schedule.headD [] = []) :
    ∃ u, sameRegisters s u ∧ u.OffersTokens sync (.byte d :: rest) schedule.tail ∧ step s = exec (.byte d) u := by
  obtain ⟨hinv, hsync, hchan, hreq, hreset, rfl⟩ := h
  refine ⟨{ s with schedule := s.schedule.tail }, by simp [sameRegisters], ⟨hinv, hsync, hchan, hreq, hreset, rfl⟩, ?_⟩
  have hselected : State.selected { s with schedule := s.schedule.tail } = some (.byte d) :=
    State.selected_byte_iff.mpr ⟨hreset, fun hidle => absurd hidle hst, rest, hchan⟩
  simp only [step_of_deliver hinv (State.deliver_of_no_moves hmoves), hselected]

/-- Two sync bytes in a fresh scan open the payload (R101, R103). -/
theorem State.OffersTokens.run_markers {s : State} {sync : Byte} {rest : List Token} {schedule : List (List HostMove)}
    (h : s.OffersTokens sync (.byte sync :: .byte sync :: rest) schedule) (hst : s.st = .scan) (hpend : s.pend = false)
    (hmoves : NoMovesFor 2 schedule) :
    ∃ t, runSteps 2 s = .next t ∧ t.OffersTokens sync rest (schedule.drop 2) ∧ t.st = .payload ∧ t.cnt = 0#3 := by
  obtain ⟨u, ⟨hust, hupend, -⟩, hu, hfirst⟩ := h.step_byte (by simp [hst]) hmoves.head
  have huscan : u.st = .scan := hust.trans hst
  have hexec : exec (.byte sync) u = .next u.scanFirstSync := by
    rw [exec_byte_of_scan huscan, State.scanByte_of_firstSync (hupend.trans hpend) hu.sync_eq.symm]
  have hpending : u.scanFirstSync.st = .scan ∧ u.scanFirstSync.pend = true := ⟨huscan, rfl⟩
  obtain ⟨v, ⟨hvst, hvpend, -⟩, hv, hsecond⟩ :=
    (hu.exec_byte (by simp [huscan]) hexec).step_byte (by simp [hpending]) hmoves.tail.head
  have hvscan : v.st = .scan := hvst.trans hpending.1
  have hexec' : exec (.byte sync) v = .next v.scanAlign := by
    rw [exec_byte_of_scan hvscan, State.scanByte_of_secondSync (hvpend.trans hpending.2) hv.sync_eq.symm]
  have hsched : schedule.drop 2 = schedule.tail.tail := by rw [List.drop_add_one_eq_tail_drop, List.drop_one]
  refine ⟨v.scanAlign, ?_, hsched ▸ hv.exec_byte (by simp [hvscan]) hexec', rfl, rfl⟩
  calc runSteps 2 s = runSteps 1 u.scanFirstSync := runSteps_succ (hfirst.trans hexec)
    _ = .next v.scanAlign := runSteps_succ (hsecond.trans hexec')

/-- Writing the entry after the first `n` adds its byte to what a read of the first entries gives. -/
theorem State.readBytes_bufWrite_next {s : State} {n : Nat} {bytes : List Byte} (hn : n < 7)
    (h : s.readBytes n = some bytes) (d : Byte) : (s.bufWrite n d).readBytes (n + 1) = some (bytes ++ [d]) := by
  simp only [State.readBytes, bytesOf_eq_some] at h ⊢
  simp [List.take_add_one, List.take_set_of_le, h, hn]

/-- A decode is open and has read `bytes` after the marker pair. -/
structure State.HasRead (s : State) (bytes : List Byte) : Prop where
  payload : s.st = .payload
  count : s.cnt.toNat = bytes.length
  read : s.readBytes bytes.length = some bytes

namespace State.HasRead
variable {s t : State} {sync d : Byte} {bytes : List Byte} {rest : List Token} {schedule : List (List HostMove)}

/-- What has been read stands in the registers. -/
theorem congr (h : s.HasRead bytes) (hregs : sameRegisters s t) : t.HasRead bytes := by
  obtain ⟨hst, -, -, hcnt, hbuf, -⟩ := hregs
  exact ⟨hst.trans h.payload, hcnt ▸ h.count, by simpa [State.readBytes, hbuf] using h.read⟩

theorem st_ne_idle (h : s.HasRead bytes) : s.st ≠ .idle := by simp [h.payload]

/-- After six payload bytes the count is 6. -/
theorem cnt_eq_six (h : s.HasRead bytes) (hlen : bytes.length = 6) : s.cnt = 6#3 := by
  have hcount := h.count
  bv_omega

/-- R26 (c): the accumulator is the checksum of the bytes read. -/
theorem acc_eq (h : s.HasRead bytes) (hinv : s.Inv) : s.acc = checksum s.sync bytes := by
  obtain ⟨-, -, hsummed, -⟩ := State.inv_iff.mp hinv
  obtain ⟨-, -, read, hread, hacc⟩ := State.payloadSummed_iff.mp hsummed h.payload
  rw [h.count, h.read, Option.some.injEq] at hread
  rw [hacc, hread]

/-- One more payload byte is read (R121). -/
theorem payloadStore (h : s.HasRead bytes) (hlen : bytes.length < 6) (d : Byte) :
    (s.payloadStore d).HasRead (bytes ++ [d]) := by
  have hle : s.cnt.toNat ≤ 5 := h.count ▸ Nat.le_of_lt_succ hlen
  have hlength : (bytes ++ [d]).length = s.cnt.toNat + 1 := by simp [h.count]
  refine ⟨h.payload, (State.payloadStore_cnt_toNat hle d).trans hlength.symm, ?_⟩
  rw [hlength]
  exact State.readBytes_bufWrite_next (s := s.take.took) (by omega) (h.count ▸ h.read) d

/-- A step reads one of the six payload bytes (R121). -/
theorem step_payload (h : s.HasRead bytes) (hhost : s.OffersTokens sync (.byte d :: rest) schedule)
    (hmoves : schedule.headD [] = []) (hlen : bytes.length < 6) :
    ∃ t, step s = .next t ∧ t.HasRead (bytes ++ [d]) ∧ t.OffersTokens sync rest schedule.tail := by
  obtain ⟨u, hregs, huhost, hstep⟩ := hhost.step_byte h.st_ne_idle hmoves
  have hu := h.congr hregs
  have hexec := exec_byte_of_payload hu.payload (hu.count ▸ Nat.le_of_lt_succ hlen) d
  exact ⟨_, hstep.trans hexec, hu.payloadStore hlen d, huhost.exec_byte hu.st_ne_idle hexec⟩

/-- Payload bytes are read one after the other (R121). -/
theorem run_payload {more : List Byte} (h : s.HasRead bytes)
    (hhost : s.OffersTokens sync (more.map .byte ++ rest) schedule) (hmoves : NoMovesFor more.length schedule)
    (hlen : bytes.length + more.length ≤ 6) :
    ∃ t, runSteps more.length s = .next t ∧ t.HasRead (bytes ++ more) ∧
      t.OffersTokens sync rest (schedule.drop more.length) := by
  induction more generalizing s bytes schedule with
  | nil => exact ⟨s, rfl, by simpa using h, hhost⟩
  | cons d more ih =>
    rw [List.length_cons] at hlen hmoves
    obtain ⟨t, hstep, ht, hthost⟩ := h.step_payload hhost hmoves.head (by omega)
    obtain ⟨u, hrun, hu, huhost⟩ := ih ht hthost hmoves.tail (by simp; omega)
    exact ⟨u, (runSteps_succ hstep).trans hrun, by simpa using hu, by simpa using huhost⟩

/-- After the six payload bytes a step judges the next byte (R122). -/
theorem step_checksum (h : s.HasRead bytes) (hhost : s.OffersTokens sync (.byte d :: rest) schedule)
    (hmoves : schedule.headD [] = []) (hlen : bytes.length = 6) :
    ∃ u : State, step s = .next (u.judgeFrame d) ∧ u.HasRead bytes ∧ u.OffersTokens sync (.byte d :: rest) schedule.tail := by
  obtain ⟨u, hregs, huhost, hstep⟩ := hhost.step_byte h.st_ne_idle hmoves
  have hu := h.congr hregs
  exact ⟨u, hstep.trans (exec_byte_of_checksum hu.payload (hu.cnt_eq_six hlen) d), hu, huhost⟩

end State.HasRead

/-- The six bytes between the markers and the checksum byte (R70). -/
def WireFrame.payload (f : WireFrame) : List Byte := [f.dl, f.dh, f.sl, f.sh, f.it, f.sp]

@[simp] theorem WireFrame.payload_length (f : WireFrame) : f.payload.length = 6 := rfl

/-- A frame is well formed exactly when its checksum byte is the checksum of its payload (R71, R72). -/
theorem WireFrame.valid_iff {f : WireFrame} {sync : Byte} : f.Valid sync ↔ f.ck = checksum sync f.payload := by
  rw [eq_checksum_iff]
  simp only [WireFrame.Valid, WireFrame.payload, List.map_cons, List.map_nil, List.sum_cons, List.sum_nil]
  omega

/-- From a fresh scan over a frame, nine steps judge its checksum byte in a state that has read its payload (R147). -/
theorem State.OffersTokens.run_frame {s : State} {f : WireFrame} {sync : Byte} {rest : List Token}
    {schedule : List (List HostMove)} (h : s.OffersTokens sync (f.tokens sync ++ rest) schedule) (hst : s.st = .scan)
    (hpend : s.pend = false) (hmoves : NoMovesFor 9 schedule) :
    ∃ u : State, runSteps 9 s = .next (u.judgeFrame f.ck) ∧ u.HasRead f.payload ∧
      u.OffersTokens sync (.byte f.ck :: rest) (schedule.drop 9) := by
  obtain ⟨t, hmarkers, hthost, hpayload, hcnt⟩ :=
    State.OffersTokens.run_markers (rest := f.payload.map Token.byte ++ .byte f.ck :: rest) h hst hpend
      (hmoves.mono (by omega))
  have ht : t.HasRead [] := ⟨hpayload, by simp [hcnt], by simp [State.readBytes, bytesOf]⟩
  obtain ⟨v, hread, hv, hvhost⟩ := ht.run_payload hthost ((hmoves.drop 2).mono (by simp)) (by simp)
  obtain ⟨u, hjudge, hu, huhost⟩ := hv.step_checksum hvhost ((hmoves.drop 2).drop 6).head rfl
  refine ⟨u, ?_, hu, by simpa [List.drop_drop] using huhost⟩
  calc runSteps 9 s = runSteps 7 t := runSteps_add (n := 7) hmarkers
    _ = runSteps 1 v := runSteps_add (n := 1) hread
    _ = .next (u.judgeFrame f.ck) := runSteps_succ hjudge

/-- An accepted frame is shown (R32, R73, R74, R140). -/
theorem State.HasRead.shows_acceptFrame {s : State} {f : WireFrame} (h : s.HasRead f.payload) :
    (s.acceptFrame f.ck).Shows f := by
  obtain ⟨-, hentry⟩ := (State.readBytes_eq_some (n := 6) (by omega)).mp h.read
  have hkept : ∀ i (hi : i < 6), (s.acceptFrame f.ck).buf[i] = f.payload[i]? := fun i hi => by
    rw [← hentry i (by omega) hi]
    exact (s.take.took.bufWrite_getElem 6 f.ck i (by omega)).trans (if_neg hi.ne)
  have hlast : (s.acceptFrame f.ck).buf[6] = some f.ck := s.take.took.bufWrite_getElem 6 f.ck 6 (by omega)
  obtain ⟨-, -, -, -, hitime, hspare, hcksum, -⟩ := frameFieldOutputs (s.acceptFrame f.ck) rfl rfl
  refine ⟨rfl, rfl, rfl, ?_, ?_, hitime.trans (hkept 4 (by omega)), hspare.trans (hkept 5 (by omega)),
    hcksum.trans hlast⟩
  · rw [State.distance_of_ok rfl rfl (hkept 0 (by omega)) (hkept 1 (by omega)), Option.map_some, assemble_toNat]
  · rw [State.strength_of_ok rfl rfl (hkept 2 (by omega)) (hkept 3 (by omega)), Option.map_some, assemble_toNat]

/-- The checksum byte matches the accumulator exactly in a well-formed frame (R72, R140). -/
theorem State.HasRead.eq_acc_iff {s : State} {f : WireFrame} (h : s.HasRead f.payload) (hinv : s.Inv) :
    f.ck = s.acc ↔ f.Valid s.sync := by
  rw [h.acc_eq hinv, WireFrame.valid_iff]

/-- The judgement takes the checksum byte (R140, R141). -/
theorem State.HasRead.judgeFrame_offers {s : State} {f : WireFrame} {sync : Byte} {rest : List Token}
    {schedule : List (List HostMove)} (h : s.HasRead f.payload)
    (hhost : s.OffersTokens sync (.byte f.ck :: rest) schedule) :
    (s.judgeFrame f.ck).OffersTokens sync rest schedule :=
  hhost.exec_byte h.st_ne_idle (exec_byte_of_checksum h.payload (h.cnt_eq_six f.payload_length) f.ck)

section Frame
variable {s : State} {f : WireFrame} {sync : Byte} {rest : List Token} {schedule : List (List HostMove)}
  (h : s.OffersTokens sync (f.tokens sync ++ rest) schedule) (hst : s.st = .scan) (hpend : s.pend = false)
  (hmoves : NoMovesFor 9 schedule)
include h hst hpend hmoves

/-- A well-formed frame is shown after exactly its nine bytes (R147). -/
theorem State.OffersTokens.run_valid_frame (hvalid : f.Valid sync) :
    ∃ t : State, runSteps 9 s = .next t ∧ t.Shows f ∧ t.OffersTokens sync rest (schedule.drop 9) := by
  obtain ⟨u, hrun, hu, huhost⟩ := h.run_frame hst hpend hmoves
  have hmatch : f.ck = u.acc := (hu.eq_acc_iff huhost.inv).mpr (huhost.sync_eq ▸ hvalid)
  have hafter := hu.judgeFrame_offers huhost
  rw [State.judgeFrame_of_eq hmatch] at hrun hafter
  exact ⟨_, hrun, hu.shows_acceptFrame, hafter⟩

/-- A frame that is not well formed is rejected after exactly its nine bytes (R148). -/
theorem State.OffersTokens.run_invalid_frame (hinvalid : ¬ f.Valid sync) :
    ∃ u : State, runSteps 9 s = .next (u.rejectFrame f.ck) ∧ u.resValid = false ∧
      (u.rejectFrame f.ck).OffersTokens sync rest (schedule.drop 9) := by
  obtain ⟨u, hrun, hu, huhost⟩ := h.run_frame hst hpend hmoves
  have hmismatch : f.ck ≠ u.acc := mt (hu.eq_acc_iff huhost.inv).mp (huhost.sync_eq ▸ hinvalid)
  have hafter := hu.judgeFrame_offers huhost
  rw [State.judgeFrame_of_ne hmismatch] at hrun hafter
  exact ⟨u, hrun, ((checkSaysR26 u).mp huhost.inv).resValid_of_open hu.st_ne_idle, hafter⟩

end Frame

/-- Settles O21: the accumulator is the checksum of the payload read, so the ninth byte matches it. -/
theorem frameIsDecoded : Obligations.FrameIsDecoded := by
  intro s f rest hinv hst hpend ⟨hreq, hreset, hsched⟩ hchan hvalid
  have hhost : s.OffersTokens s.sync (f.tokens s.sync ++ rest) [] := ⟨hinv, rfl, hchan, hreq, hreset, hsched⟩
  obtain ⟨t, hrun, hshows, ht⟩ := hhost.run_valid_frame hst hpend (noMovesFor_nil 9) hvalid
  exact ⟨t, hrun, hshows, ht.chan_eq⟩

/-- Settles O22: the ninth byte differs from the accumulator, and R26 (e) has no result while the decode is open. -/
theorem corruptedFrameSkipped : Obligations.CorruptedFrameSkipped := by
  intro s f rest hinv hst hpend ⟨hreq, hreset, hsched⟩ hchan hinvalid
  have hhost : s.OffersTokens s.sync (f.tokens s.sync ++ rest) [] := ⟨hinv, rfl, hchan, hreq, hreset, hsched⟩
  obtain ⟨u, hrun, hresult, ht⟩ := hhost.run_invalid_frame hst hpend (noMovesFor_nil 9) hinvalid
  exact ⟨_, hrun, rfl, rfl, rfl, rfl, hresult, rfl, ht.chan_eq, ht.noReq, ht.noReset, ht.schedule_eq⟩

end Sys2Proof.Machine

/-! ### Two runs that share the host (R146) -/

namespace Sys2Proof.Machine

/-- Two outcomes are a pair of next states that are related, or the same refusal. -/
def Alike (R : State → State → Prop) (o p : Host.Outcome State Fault Refusal) : Prop :=
  (∃ a b, o = .next a ∧ p = .next b ∧ R a b) ∨ ∃ r, o = .refused r ∧ p = .refused r

section Runs
variable {R : State → State → Prop} {s t : State}

/-- Runs are alike that begin with alike steps and go on alike. -/
theorem Alike.runSteps_succ {n : Nat} (hstep : Alike R (step s) (step t))
    (hrest : ∀ a b, R a b → Alike R (runSteps n a) (runSteps n b)) :
    Alike R (runSteps (n + 1) s) (runSteps (n + 1) t) := by
  rcases hstep with ⟨a, b, ha, hb, hab⟩ | ⟨r, hs, ht⟩
  · rw [Machine.runSteps_succ ha, Machine.runSteps_succ hb]
    exact hrest a b hab
  · exact .inr ⟨r, runSteps_refused hs, runSteps_refused ht⟩

/-- A relation that every step keeps is kept by every run. -/
theorem runSteps_alike (hkeep : ∀ a b, R a b → Alike R (step a) (step b)) (n : Nat) (h : R s t) :
    Alike R (runSteps n s) (runSteps n t) := by
  induction n generalizing s t with
  | zero => exact .inl ⟨s, t, rfl, rfl, h⟩
  | succ n ih => exact (hkeep s t h).runSteps_succ fun _ _ => ih

end Runs

/-- The two states differ at most in the bytes of the buffer that the open decode has not read and that are not shown, and in
a status that is not meaningful. -/
structure SameDecode (s t : State) : Prop where
  st : t.st = s.st
  pend : t.pend = s.pend
  acc : t.acc = s.acc
  cnt : t.cnt = s.cnt
  resValid : t.resValid = s.resValid
  resStatus : s.resValid = true → t.resStatus = s.resStatus
  evResync : t.evResync = s.evResync
  answer : t.answer = s.answer
  host : sameHost s t
  chan : t.chan = s.chan
  read : ∀ (i : Nat) (h : i < 7), i < s.cnt.toNat → t.buf[i] = s.buf[i]
  shown : s.resValid = true → s.resStatus = some .ok → t.buf = s.buf

namespace SameDecode
variable {s t : State}

/-- The frame outputs are the same where they are shown, and `none` in both states elsewhere (R31). -/
theorem frameOutputs (h : SameDecode s t) : sameFrameOutputs s t := by
  obtain ⟨hsync, -⟩ := h.host
  by_cases hshown : s.resValid = true ∧ s.resStatus = some .ok
  · obtain ⟨hvalid, hok⟩ := hshown
    exact sameFrameOutputs_of_eq (h.shown hvalid hok) h.resValid (h.resStatus hvalid) hsync
  · refine (frameOutputsOnlyAfterOk s hshown).same (frameOutputsOnlyAfterOk t fun ⟨hvalid, hok⟩ => hshown ?_)
    have hvalid' : s.resValid = true := h.resValid ▸ hvalid
    exact ⟨hvalid', h.resStatus hvalid' ▸ hok⟩

/-- The same event is selected (R210). -/
theorem selected (h : SameDecode s t) : t.selected = s.selected := by
  obtain ⟨-, hreq, hreset, -⟩ := h.host
  unfold State.selected State.reqReady
  rw [h.st, hreq, hreset, h.chan]

/-! #### The primitives of a step keep the decodes the same -/

theorem take (h : SameDecode s t) : SameDecode s.take t.take :=
  { h with chan := congrArg List.tail h.chan }

theorem took (h : SameDecode s t) : SameDecode s.took t.took :=
  { h with evResync := rfl, answer := rfl }

theorem hold (h : SameDecode s t) : SameDecode s.hold t.hold :=
  { h with evResync := rfl, answer := rfl }

theorem wait (h : SameDecode s t) : SameDecode s.wait t.wait :=
  { h with evResync := rfl, answer := rfl }

theorem accumulate (h : SameDecode s t) (d : Byte) : SameDecode (s.accumulate d) (t.accumulate d) :=
  { h with acc := congrArg (· + d) h.acc }

theorem setPend (h : SameDecode s t) : SameDecode s.setPend t.setPend :=
  { h with pend := rfl }

theorem clearScan (h : SameDecode s t) : SameDecode s.clearScan t.clearScan :=
  { h with pend := rfl, acc := rfl }

theorem enterPayload (h : SameDecode s t) : SameDecode s.enterPayload t.enterPayload :=
  { h with st := rfl, pend := rfl, cnt := rfl, read := fun _ _ hi => absurd hi (Nat.not_lt_zero _) }

theorem resync (h : SameDecode s t) : SameDecode s.resync t.resync :=
  { h with
    st := rfl, pend := rfl, acc := rfl, cnt := rfl, evResync := rfl
    read := fun _ _ hi => absurd hi (Nat.not_lt_zero _) }

theorem bufWrite (h : SameDecode s t) (j : Nat) (d : Byte) : SameDecode (s.bufWrite j d) (t.bufWrite j d) :=
  { h with
    read := fun i hi hread => by rw [t.bufWrite_getElem, s.bufWrite_getElem, h.read i hi hread]
    shown := fun hvalid hok => by simp only [State.bufWrite_buf, h.shown hvalid hok] }

/-- One more byte counts as read where it is the same. -/
theorem countByte (h : SameDecode s t) (hnext : ∀ hi : s.cnt.toNat < 7, t.buf[s.cnt.toNat] = s.buf[s.cnt.toNat]) :
    SameDecode s.countByte t.countByte :=
  { h with
    cnt := congrArg (· + 1#3) h.cnt
    read := fun i hi hread => by
      have hle : i < s.cnt.toNat ∨ i = s.cnt.toNat := by
        rw [State.countByte_cnt] at hread
        bv_omega
      rcases hle with hlt | rfl
      · exact h.read i hi hlt
      · exact hnext hi }

/-- A completion with `OK` needs the whole buffer to be the same, because it is shown. -/
theorem complete (h : SameDecode s t) (x : Status) (hbuf : x = .ok → t.buf = s.buf) :
    SameDecode (s.complete x) (t.complete x) :=
  { h with
    st := rfl, pend := rfl, acc := rfl, cnt := rfl, resValid := rfl
    resStatus := fun _ => rfl
    read := fun _ _ hi => absurd hi (Nat.not_lt_zero _)
    shown := fun _ hok => hbuf (Option.some.inj hok) }

/-! #### The meanings keep the decodes the same -/

theorem scanByte (h : SameDecode s t) (d : Byte) : SameDecode (s.scanByte d) (t.scanByte d) := by
  obtain ⟨hsync, -⟩ := h.host
  have hsum : SameDecode (s.take.took.accumulate s.sync) (t.take.took.accumulate t.sync) :=
    hsync ▸ h.take.took.accumulate s.sync
  simp only [State.scanByte, hsync, h.pend]
  split_ifs
  · exact hsum.enterPayload
  · exact hsum.setPend
  · exact h.take.took.clearScan
  · exact h.take.took.clearScan

theorem payloadStore (h : SameDecode s t) (d : Byte) : SameDecode (s.payloadStore d) (t.payloadStore d) := by
  have hstored := (h.take.took.bufWrite s.cnt.toNat d).accumulate d
  simp only [State.payloadStore, h.cnt]
  exact hstored.countByte fun _ => by simp

/-- The seven bytes are the same once the checksum byte stands in the buffer. -/
theorem buf_of_checksum (h : SameDecode s t) (hcnt : s.cnt = 6#3) (d : Byte) :
    (t.bufWrite 6 d).buf = (s.bufWrite 6 d).buf := by
  refine Vector.ext fun i hi => ?_
  rw [t.bufWrite_getElem, s.bufWrite_getElem]
  split_ifs with hlast
  · rfl
  · exact h.read i hi (by simp [hcnt]; omega)

theorem judgeFrame (h : SameDecode s t) (hcnt : s.cnt = 6#3) (d : Byte) :
    SameDecode (s.judgeFrame d) (t.judgeFrame d) := by
  have hstored := h.take.took.bufWrite 6 d
  simp only [State.judgeFrame, h.acc]
  split_ifs
  · exact hstored.complete .ok fun _ => h.take.took.buf_of_checksum hcnt d
  · exact hstored.resync

end SameDecode

section SameHost
variable {s t : State} (hhost : sameHost s t) (hchan : t.chan = s.chan)
include hhost hchan

/-- An accepted `REQ` starts the same decode whatever the registers hold (R160). -/
theorem sameDecode_of_req : SameDecode s.took.takeReq.startDecode t.took.takeReq.startDecode := by
  obtain ⟨hsync, -, hreset, hsched⟩ := hhost
  exact
    { st := rfl, pend := rfl, acc := rfl, cnt := rfl, resValid := rfl, evResync := rfl, answer := rfl, chan := hchan
      host := ⟨hsync, rfl, hreset, hsched⟩
      resStatus := nofun
      read := fun _ _ hi => absurd hi (Nat.not_lt_zero _)
      shown := nofun }

/-- `RESET` leaves the same registers whatever they held (R240). -/
theorem sameDecode_of_reset : SameDecode s.took.takeReset.resetRegisters t.took.takeReset.resetRegisters := by
  obtain ⟨hsync, hreq, -, hsched⟩ := hhost
  exact
    { st := rfl, pend := rfl, acc := rfl, cnt := rfl, resValid := rfl, evResync := rfl, answer := rfl, chan := hchan
      host := ⟨hsync, hreq, rfl, hsched⟩
      resStatus := nofun
      read := fun _ _ _ => rfl
      shown := nofun }

/-- The host's moves are the same for both states: both are refused, or they leave the same ports. -/
theorem deliver_of_sameHost :
    (∃ why, s.deliver = .error why ∧ t.deliver = .error why) ∨
      ∃ u, s.deliver = .ok u ∧ t.deliver = .ok (t.withPortsOf u) := by
  obtain ⟨-, hreq, hreset, hsched⟩ := hhost
  have hports : t.withPortsOf s = t := by simp only [State.withPortsOf, ← hreq, ← hreset, ← hsched, ← hchan]
  have hdeliver := t.withPortsOf_deliver s
  rw [hports] at hdeliver
  cases hs : s.deliver with
  | error why => exact .inl ⟨why, rfl, hdeliver.trans (by rw [hs]; rfl)⟩
  | ok u => exact .inr ⟨u, rfl, hdeliver.trans (by rw [hs]; rfl)⟩

end SameHost

/-- An error token ends an open decode (R201, R202). -/
theorem State.endDecode_eq_of_open {s : State} (hst : s.st = .scan ∨ s.st = .payload) (x : Status) :
    s.endDecode x = .next (s.take.took.complete x) := by
  rcases hst with hst | hst <;> simp [State.endDecode, hst]

/-- An error token keeps the decodes the same (R201, R202). -/
theorem SameDecode.endDecode {s t a : State} {x : Status} (h : SameDecode s t) (hx : x ≠ .ok)
    (hs : s.endDecode x = .next a) : ∃ b, t.endDecode x = .next b ∧ SameDecode a b := by
  rcases State.endDecode_next hs with ⟨hst, rfl⟩ | ⟨hst, rfl⟩
  · exact ⟨t.hold, by simp [State.endDecode, h.st, hst], h.hold⟩
  · exact ⟨_, State.endDecode_eq_of_open (h.st ▸ hst) x, h.take.took.complete x fun hok => absurd hok hx⟩

/-- Every meaning keeps the decodes the same. -/
theorem SameDecode.exec {s t a : State} {i : Instr} (h : SameDecode s t) (hs : exec i s = .next a) :
    ∃ b, exec i t = .next b ∧ SameDecode a b := by
  cases i with
  | byte d =>
    rcases execByte_next_of_st hs with ⟨hst, rfl⟩ | ⟨hst, rfl⟩ | ⟨hst, hle, rfl⟩ | ⟨hst, hcnt, rfl⟩
    · exact ⟨_, exec_token_of_idle (h.st.trans hst) (.byte d), h.hold⟩
    · exact ⟨_, exec_byte_of_scan (h.st.trans hst) d, h.scanByte d⟩
    · exact ⟨_, exec_byte_of_payload (h.st.trans hst) (h.cnt ▸ hle) d, h.payloadStore d⟩
    · exact ⟨_, exec_byte_of_checksum (h.st.trans hst) (h.cnt.trans hcnt) d, h.judgeFrame hcnt d⟩
  | eos | ioerr => exact h.endDecode (by decide) hs
  | req =>
    rcases execReq_next hs with ⟨hst, rfl⟩ | ⟨hst, rfl⟩
    · exact ⟨_, by simp [Machine.exec, execReq, h.st, hst], sameDecode_of_req h.host h.chan⟩
    · exact ⟨t.hold, by rcases hst with hst | hst <;> simp [Machine.exec, execReq, h.st, hst], h.hold⟩
  | reset =>
    obtain rfl := execReset_next hs
    exact ⟨_, rfl, sameDecode_of_reset h.host h.chan⟩

/-- The same moves of the host keep the decodes the same. -/
theorem SameDecode.deliver {s t u : State} (h : SameDecode s t) (hu : s.deliver = .ok u) :
    SameDecode u (t.withPortsOf u) := by
  obtain ⟨hsync, -⟩ := h.host
  obtain ⟨more, q, r, rfl⟩ := State.deliver_form hu
  exact { h with host := ⟨hsync, rfl, rfl, rfl⟩, chan := rfl }

/-- A step keeps the decodes the same, or is refused in both states for the same reason. -/
theorem SameDecode.step {s t : State} (h : SameDecode s t) (hs : s.Inv) (ht : t.Inv) :
    Alike SameDecode (step s) (step t) := by
  rcases deliver_of_sameHost h.host h.chan with ⟨why, hsd, htd⟩ | ⟨u, hsd, htd⟩
  · exact .inr ⟨_, step_of_deliver_error hs hsd, step_of_deliver_error ht htd⟩
  · have hu : u.Inv := (checkSaysR26 u).mpr (((checkSaysR26 s).mp hs).deliver hsd)
    have huv := h.deliver hsd
    rw [step_of_deliver hs hsd, step_of_deliver ht htd, huv.selected]
    cases u.selected with
    | none => exact .inl ⟨_, _, rfl, rfl, huv.wait⟩
    | some i =>
      obtain ⟨a, ha⟩ := hu.exec_next i
      obtain ⟨b, hb, hab⟩ := huv.exec ha
      exact .inl ⟨a, b, ha, hb, hab⟩

/-! ### The next decode (R146, R160) -/

/-- A `REQ` that is offered stays offered through a move of the host. -/
theorem State.arrive_keeps_req {s u : State} {m : HostMove} (h : s.arrive m = .ok u) (hreq : s.reqIn = true) :
    u.reqIn = true := by
  cases m with
  | offer w =>
    cases hw : decode w with
    | error why => simp [State.arrive, hw] at h
    | ok i =>
      obtain rfl : s.offered i = u := by simpa [State.arrive, hw] using h
      cases i <;> simp [State.offered, hreq]
  | lineError d =>
    obtain rfl := Except.ok.inj h
    exact hreq

/-- A `REQ` that is offered stays offered through the host's moves (R14, R160). -/
theorem State.arriveAll_keeps_req {moves : List HostMove} {s u : State} (h : s.arriveAll moves = .ok u)
    (hreq : s.reqIn = true) : u.reqIn = true := by
  induction moves generalizing s with
  | nil => exact Except.ok.inj h ▸ hreq
  | cons m rest ih =>
    cases hm : s.arrive m with
    | error why => simp [State.arriveAll, hm] at h
    | ok v =>
      simp only [State.arriveAll, hm] at h
      exact ih h (State.arrive_keeps_req hm hreq)

/-- A `REQ` that is offered stays offered until the step's event is selected. -/
theorem State.deliver_keeps_req {s u : State} (h : s.deliver = .ok u) (hreq : s.reqIn = true) : u.reqIn = true := by
  cases hs : s.schedule with
  | nil =>
    simp only [State.deliver, hs] at h
    exact Except.ok.inj h ▸ hreq
  | cons moves rest =>
    simp only [State.deliver, hs] at h
    exact State.arriveAll_keeps_req h hreq

/-- In `IDLE` an offered `REQ` yields to RESET only (R210). -/
theorem State.selected_of_idle_req {s : State} (hst : s.st = .idle) (hreq : s.reqIn = true) :
    s.selected = some (if s.resetIn then .reset else .req) := by
  cases hreset : s.resetIn <;> simp [State.selected, State.reqReady, hst, hreq, hreset]

/-- `REQ` starts a decode in `IDLE` (R160). -/
theorem exec_req_of_idle {s : State} (hst : s.st = .idle) : exec .req s = .next s.took.takeReq.startDecode := by
  simp [exec, execReq, hst]

/-- Whatever the registers hold, a step that is offered a `REQ` in `IDLE` starts the same decode. -/
theorem step_req_alike {s t : State} (hs : s.Inv) (ht : t.Inv) (hsst : s.st = .idle) (htst : t.st = .idle)
    (hreq : s.reqIn = true) (hhost : sameHost s t) (hchan : t.chan = s.chan) :
    Alike SameDecode (step s) (step t) := by
  rcases deliver_of_sameHost hhost hchan with ⟨why, hsd, htd⟩ | ⟨u, hsd, htd⟩
  · exact .inr ⟨_, step_of_deliver_error hs hsd, step_of_deliver_error ht htd⟩
  · obtain ⟨hregs, -⟩ := State.deliver_sameRegisters hsd
    obtain ⟨hsync, -⟩ := hhost
    have hust : u.st = .idle := hregs.trans hsst
    have hureq : u.reqIn = true := State.deliver_keeps_req hsd hreq
    have hvhost : sameHost u (t.withPortsOf u) := ⟨hsync.trans (State.deliver_sync hsd).symm, rfl, rfl, rfl⟩
    have hvst : (t.withPortsOf u).st = .idle := htst
    have hvreq : (t.withPortsOf u).reqIn = true := hureq
    have hvreset : (t.withPortsOf u).resetIn = u.resetIn := rfl
    rw [step_of_deliver hs hsd, step_of_deliver ht htd, State.selected_of_idle_req hust hureq,
      State.selected_of_idle_req hvst hvreq, hvreset]
    cases u.resetIn with
    | true => exact .inl ⟨_, _, rfl, rfl, sameDecode_of_reset hvhost rfl⟩
    | false => exact .inl ⟨_, _, exec_req_of_idle hust, exec_req_of_idle hvst, sameDecode_of_req hvhost rfl⟩

/-- The same decode in two states that meet R26. -/
structure SameDecodeR26 (s t : State) : Prop where
  left : s.Inv
  right : t.Inv
  same : SameDecode s t

/-- A step leads from a state that passes the check of R26 to one that passes it. -/
theorem State.Inv.of_step {s t : State} (hs : s.Inv) (h : step s = .next t) : t.Inv :=
  (checkSaysR26 t).mpr (stepKeepsR26 s t ((checkSaysR26 s).mp hs) h)

/-- Steps that are alike lead to states that meet R26. -/
theorem Alike.sameDecodeR26 {s t : State} (hs : s.Inv) (ht : t.Inv) (h : Alike SameDecode (step s) (step t)) :
    Alike SameDecodeR26 (step s) (step t) := by
  rcases h with ⟨a, b, ha, hb, hab⟩ | hrefused
  · exact .inl ⟨a, b, ha, hb, hs.of_step ha, ht.of_step hb, hab⟩
  · exact .inr hrefused

/-- Settles O34: the first step starts the same decode, which every later step keeps. -/
theorem earlierDecodeHasNoInfluence : Obligations.EarlierDecodeHasNoInfluence := by
  intro s t hs ht hsst htst hreq hhost hchan n
  have hfirst := (step_req_alike hs ht hsst htst hreq hhost hchan).sameDecodeR26 hs ht
  have hkeep : ∀ a b, SameDecodeR26 a b → Alike SameDecodeR26 (step a) (step b) := fun a b h =>
    (h.same.step h.left h.right).sameDecodeR26 h.left h.right
  rcases hfirst.runSteps_succ (n := n) fun a b => runSteps_alike hkeep n with ⟨a, b, ha, hb, -, -, h⟩ | hrefused
  · exact .inl ⟨a, b, ha, hb, h.st, h.pend, h.acc, h.cnt, h.resValid, h.resStatus, h.frameOutputs, h.evResync, h.answer,
      h.chan, h.host⟩
  · exact .inr hrefused

end Sys2Proof.Machine

/-! ### The request and the result (R160, R163, R165) -/

namespace Sys2Proof.Machine

/-- `REQ` is held while a decode is open (R160, R161). -/
theorem exec_req_of_open {s : State} (hst : s.st = .scan ∨ s.st = .payload) : exec .req s = .next s.hold := by
  rcases hst with hst | hst <;> simp [exec, execReq, hst]

/-- Settles O24: the two readings of `REQ`, by `req_ready`. -/
theorem reqStartsDecode : Obligations.ReqStartsDecode :=
  ⟨fun _ hst => ⟨_, exec_req_of_idle hst, rfl, State.noFrame_of_resValid rfl⟩, fun _ hst => exec_req_of_open hst⟩

/-- States with the same registers and SYNC show the same frame. -/
theorem sameFrameOutputs_of_sameRegisters {s t : State} (hregs : sameRegisters s t) (hsync : t.sync = s.sync) :
    sameFrameOutputs s t := by
  obtain ⟨-, -, -, -, hbuf, hvalid, hstatus⟩ := hregs
  exact sameFrameOutputs_of_eq hbuf hvalid hstatus hsync

/-- In `IDLE` every event but REQ and RESET is held (R52, R163). -/
theorem exec_of_idle {s : State} {i : Instr} (hst : s.st = .idle) (hreq : i ≠ .req) (hreset : i ≠ .reset) :
    exec i s = .next s.hold := by
  cases i with
  | byte d => exact exec_token_of_idle hst (.byte d)
  | eos => exact exec_token_of_idle hst .eos
  | ioerr => exact exec_token_of_idle hst .ioerr
  | req => exact absurd rfl hreq
  | reset => exact absurd rfl hreset

/-- Where neither REQ nor RESET is offered in `IDLE`, a step waits or holds a token. -/
theorem step_of_idle_without_req {s t u : State} (hst : s.st = .idle) (hdeliver : s.deliver = .ok u)
    (hreq : u.reqIn = false) (hreset : u.resetIn = false) (h : step s = .next t) : t = u.wait ∨ t = u.hold := by
  obtain ⟨-, v, hv, hcase⟩ := step_next h
  obtain rfl : u = v := Except.ok.inj (hdeliver.symm.trans hv)
  obtain ⟨hust, -⟩ := State.deliver_sameRegisters hdeliver
  rcases hcase with ⟨-, rfl⟩ | ⟨i, hselected, hexec⟩
  · exact .inl rfl
  · rcases State.selected_some hselected with ⟨hreset', -⟩ | ⟨-, hreq', -⟩ | ⟨-, -, k, rest, -, rfl⟩
    · simp [hreset] at hreset'
    · simp [hreq] at hreq'
    · rw [exec_token_of_idle (hust.trans hst)] at hexec
      exact .inr (Host.Outcome.next.inj hexec).symm

/-- Settles O26: the host's moves, a wait and a hold write no register, and without REQ and RESET a step in `IDLE` does
nothing else. -/
theorem resultStableWhileIdle : Obligations.ResultStableWhileIdle := by
  refine ⟨fun s t i hst hreq hreset h => ?_, fun s t u hst hdeliver hreq hreset h => ?_⟩
  · rw [exec_of_idle hst hreq hreset] at h
    obtain rfl := Host.Outcome.next.inj h
    exact ⟨rfl, rfl, s.hold_sameFrameOutputs⟩
  · have hsync := State.deliver_sync hdeliver
    have hregs := State.deliver_sameRegisters hdeliver
    have hkept : sameRegisters s t ∧ t.sync = s.sync ∧ t.chan = u.chan := by
      rcases step_of_idle_without_req hst hdeliver hreq hreset h with rfl | rfl
      · exact ⟨hregs, hsync, rfl⟩
      · exact ⟨hregs, hsync, rfl⟩
    obtain ⟨hregs, hsync, hchan⟩ := hkept
    have hframe := sameFrameOutputs_of_sameRegisters hregs hsync
    obtain ⟨htst, -, -, -, -, hvalid, hstatus⟩ := hregs
    exact ⟨hvalid, hstatus, hframe, htst.trans hst, hchan⟩

/-- Empty entries at the head of a schedule are steps without a move. -/
theorem noMovesFor_replicate_append (n : Nat) (later : List (List HostMove)) :
    NoMovesFor n (List.replicate n [] ++ later) := fun k hk => by
  rw [List.getD_append _ _ _ _ (by simpa using hk), List.getD_replicate _ hk]

/-- A frame is shown in `IDLE`. -/
theorem State.Shows.st_idle {s : State} {f : WireFrame} (h : s.Shows f) : s.st = .idle := by
  obtain ⟨hst, -⟩ := h
  exact hst

/-- A `REQ` offered in `IDLE` is selected unless RESET is offered, whatever stands on the channel (R210). -/
theorem State.selected_offered_req {s : State} (hst : s.st = .idle) (hreset : s.resetIn = false) :
    (s.offered .req).selected = some .req :=
  (State.selected_of_idle_req (s := s.offered .req) hst rfl).trans (by simp [State.offered, hreset])

section Request
variable {s : State} {sync : Byte} {schedule : List (List HostMove)} (hst : s.st = .idle)
include hst

/-- A `REQ` offered in `IDLE` starts a scan in that step and takes no token (R160). -/
theorem State.OffersTokens.step_req {chan : List Token}
    (h : s.OffersTokens sync chan ([.offer (encode .req)] :: schedule)) :
    ∃ t, step s = .next t ∧ t.OffersTokens sync chan schedule ∧ t.st = .scan ∧ t.pend = false := by
  obtain ⟨hinv, hsync, hchan, -, hreset, hsched⟩ := h
  have hselected : (State.offered { s with schedule := schedule } .req).selected = some .req :=
    State.selected_offered_req hst hreset
  have hstep : step s = .next (State.offered { s with schedule := schedule } .req).took.takeReq.startDecode := by
    rw [step_of_deliver hinv (State.deliver_single_offer hsched (decode_encode .req)), hselected]
    exact exec_req_of_idle hst
  exact ⟨_, hstep, ⟨hinv.of_step hstep, hsync, hchan, rfl, hreset, rfl⟩, rfl, rfl⟩

/-- A `REQ` in `IDLE` with a well-formed frame on the channel: ten steps take the frame's nine bytes and show it
(R147, R160). -/
theorem State.OffersTokens.run_requested_frame {f : WireFrame} {rest : List Token}
    (h : s.OffersTokens sync (f.tokens sync ++ rest) ([.offer (encode .req)] :: schedule))
    (hmoves : NoMovesFor 9 schedule) (hvalid : f.Valid sync) :
    ∃ t : State, runSteps 10 s = .next t ∧ t.Shows f ∧ t.OffersTokens sync rest (schedule.drop 9) := by
  obtain ⟨v, hstep, hv, hscan, hpend⟩ := h.step_req hst
  obtain ⟨t, hrun, hshows, ht⟩ := hv.run_valid_frame hscan hpend hmoves hvalid
  exact ⟨t, (runSteps_succ hstep).trans hrun, hshows, ht⟩

end Request

/-- Settles O23: the first decode ends in `IDLE` with the second frame on the channel and the second `REQ` next in the
schedule, so the same run follows once more. -/
theorem consecutiveFramesInOrder : Obligations.ConsecutiveFramesInOrder := by
  intro s f g rest hinv hst hreq hreset hchan hf hg hsched
  have hhost : s.OffersTokens s.sync (f.tokens s.sync ++ (g.tokens s.sync ++ rest))
      ([.offer (encode .req)] :: (List.replicate 9 [] ++ [[.offer (encode .req)]])) :=
    ⟨hinv, rfl, by rw [hchan, List.append_assoc], hreq, hreset, hsched⟩
  obtain ⟨t, hfirst, hshows, ht⟩ := hhost.run_requested_frame hst (noMovesFor_replicate_append 9 _) hf
  rw [List.drop_left' List.length_replicate] at ht
  obtain ⟨u, hsecond, hushows, hu⟩ := ht.run_requested_frame hshows.st_idle (noMovesFor_nil 9) hg
  exact ⟨t, u, hfirst, hshows, ht.chan_eq, (runSteps_add (n := 10) hfirst).trans hsecond, hushows, hu.chan_eq⟩

end Sys2Proof.Machine

/-! ### The consumer outside the block (R166, R175) -/

namespace Sys2Proof.Machine

/-- The threshold of R175. -/
theorem consumeDistance_eq_forward_iff {d : Half} : consumeDistance d = .forward d ↔ d.toNat < Config.distLimit := by
  by_cases hlt : d.toNat < Config.distLimit <;> simp [consumeDistance, hlt]

theorem consumeDistance_eq_drop_iff {d : Half} : consumeDistance d = .drop ↔ Config.distLimit ≤ d.toNat := by
  by_cases hlt : d.toNat < Config.distLimit
  · simp [consumeDistance, hlt]
  · simp [consumeDistance, hlt, Nat.le_of_not_lt hlt]

/-- The consumer's reaction to a shown result, by its status (R175). -/
theorem State.consume_of_resValid {s : State} (hvalid : s.resValid = true) :
    (s.resStatus = some .ok → s.consume = s.distance.map consumeDistance) ∧
      (s.resStatus = some .io → s.consume = some .abort) ∧
      (s.resStatus = some .truncated → s.consume = some .retry) := by
  refine ⟨fun h => ?_, fun h => ?_, fun h => ?_⟩ <;> simp [State.consume, hvalid, h]

/-- Settles O56: the threshold is `DIST_LIMIT`, and each reaction is the status's own. -/
theorem consumerActions : Obligations.ConsumerActions := by
  refine ⟨fun _ => consumeDistance_eq_forward_iff, fun _ => consumeDistance_eq_drop_iff,
    fun _ hvalid hio => ?_, fun _ hvalid htruncated => ?_, fun _ d hvalid hok hdistance => ?_⟩
  · obtain ⟨-, habort, -⟩ := State.consume_of_resValid hvalid
    exact habort hio
  · obtain ⟨-, -, hretry⟩ := State.consume_of_resValid hvalid
    exact hretry htruncated
  · obtain ⟨hact, -⟩ := State.consume_of_resValid hvalid
    rw [hact hok, hdistance, Option.map_some]

end Sys2Proof.Machine

/-! ### Error outcomes and the interrupt line (R201, R202, R212) -/

namespace Sys2Proof.Machine

/-- Settles O36: IOERR ends an open decode with `IO`, and is held in `IDLE` as every token is. -/
theorem ioerrCompletes : Obligations.IoerrCompletes :=
  ⟨fun _ hst => ⟨_, State.endDecode_eq_of_open hst .io, rfl, State.noFrame_of_resStatus (by simp)⟩,
    fun _ hst => exec_token_of_idle hst .ioerr⟩

/-- Settles O37: EOS ends an open decode with `TRUNCATED`, and is held in `IDLE` as every token is. -/
theorem eosCompletes : Obligations.EosCompletes :=
  ⟨fun _ hst => ⟨_, State.endDecode_eq_of_open hst .truncated, rfl, State.noFrame_of_resStatus (by simp)⟩,
    fun _ hst => exec_token_of_idle hst .eos⟩

/-- Settles O52: an accepted `REQ` and a `RESET` both clear `res_valid`. -/
theorem resultIrqLine : Obligations.ResultIrqLine := by
  refine ⟨fun s => ⟨rfl, rfl⟩, ?_⟩
  rintro s t (⟨h, hst⟩ | h)
  · rw [exec_req_of_idle hst] at h
    obtain rfl := Host.Outcome.next.inj h
    rfl
  · obtain rfl := execReset_next h
    rfl

end Sys2Proof.Machine

/-! ### The event that a step runs (R210) -/

namespace Sys2Proof.Machine

/-- A step runs the event that is selected after the host's moves (R14). -/
theorem step_of_selected {s u : State} {i : Instr} (hinv : s.Inv) (hdeliver : s.deliver = .ok u)
    (hselected : u.selected = some i) : step s = exec i u := by
  simp only [step_of_deliver hinv hdeliver, hselected]

/-- RESET comes before every other event (R210). -/
theorem State.selected_of_reset {s : State} (hreset : s.resetIn = true) : s.selected = some .reset := if_pos hreset

/-- The head of the channel is selected unless RESET is offered or, in `IDLE`, REQ (R210). -/
theorem State.selected_of_token {s : State} {k : Token} {rest : List Token} (hreset : s.resetIn = false)
    (hreq : s.st = .idle → s.reqIn = false) (hchan : s.chan = k :: rest) : s.selected = some k.toInstr := by
  by_cases hst : s.st = .idle
  · simp [State.selected, State.reqReady, hst, hreset, hreq hst, hchan]
  · simp [State.selected, State.reqReady, hst, hreset, hchan]

/-- With the channel empty and no RESET, an offered REQ is selected, ready or not (R14, R160). -/
theorem State.selected_of_req {s : State} (hreset : s.resetIn = false) (hreq : s.reqIn = true) (hchan : s.chan = []) :
    s.selected = some .req := by
  simp [State.selected, hreset, hreq, hchan]

/-- In a state that meets R26 an open decode is in `SCAN` or in `PAYLOAD` (R26 (d)). -/
theorem State.Inv.scan_or_payload {s : State} (h : s.Inv) (hopen : s.st ≠ .idle) : s.st = .scan ∨ s.st = .payload := by
  obtain ⟨hused, -⟩ := h.codes_used
  cases hst : s.st with
  | idle => exact absurd hst hopen
  | scan => exact .inl rfl
  | payload => exact .inr rfl
  | reserved => exact absurd hst hused

/-- The host's moves leave a state that passes the check of R26. -/
theorem State.Inv.deliver {s u : State} (h : s.Inv) (hdeliver : s.deliver = .ok u) : u.Inv :=
  (checkSaysR26 u).mpr (((checkSaysR26 s).mp h).deliver hdeliver)

/-- A REQ and a token are never both takeable (R30). -/
theorem State.not_reqReady_and_byteReady (s : State) : ¬ (s.reqReady = true ∧ s.byteReady = true) := by
  rintro ⟨hreq, hbyte⟩
  exact State.st_ne_idle_of_byteReady hbyte (by simpa [State.reqReady] using hreq)

/-- Settles O6: each clause names the event that is selected; where its port is not ready, the event is held. -/
theorem stepPriority : Obligations.StepPriority := by
  refine ⟨fun s u hinv hdeliver => ?_, State.not_reqReady_and_byteReady⟩
  have hstep : ∀ {i}, u.selected = some i → step s = exec i u := step_of_selected hinv hdeliver
  refine ⟨fun hreset => ?_, fun hreset hst hreq => ?_, fun k rest hreset hopen hchan => ?_,
    fun k rest hreset hst hreq hchan => ?_, fun hreset hopen hchan hreq => ?_⟩
  · exact ⟨hstep (State.selected_of_reset hreset), _, rfl, rfl, rfl, rfl, rfl, rfl⟩
  · exact hstep (by simp [State.selected_of_idle_req hst hreq, hreset])
  · exact hstep (State.selected_of_token hreset (fun hst => absurd hst hopen) hchan)
  · exact ⟨hstep (State.selected_of_token hreset (fun _ => hreq) hchan), exec_token_of_idle hst k⟩
  · exact ⟨hstep (State.selected_of_req hreset hreq hchan),
      exec_req_of_open ((hinv.deliver hdeliver).scan_or_payload hopen)⟩

end Sys2Proof.Machine

/-! ### Tokens in an open decode (R51, R201, R202) -/

namespace Sys2Proof.Machine

/-- A token touches neither SYNC nor the other ports nor the schedule. -/
theorem exec_token_sameHost {s t : State} {k : Token} (h : exec k.toInstr s = .next t) : sameHost s t := by
  cases k with
  | byte d => exact execByte_sameHost h
  | eos | ioerr => exact State.endDecode_sameHost h

/-- While a decode is open a token is taken (R51, R53). -/
theorem exec_token_chan_of_open {s t : State} {k : Token} (h : exec k.toInstr s = .next t) (hopen : s.st ≠ .idle) :
    t.chan = s.chan.tail := by
  cases k with
  | byte d => exact execByte_chan h hopen
  | eos | ioerr =>
    obtain ⟨-, -, -, htail⟩ := State.endDecode_frame h
    exact htail hopen

/-- `EOS` and `IOERR` end an open decode (R201, R202). -/
theorem exec_error_token_ends_decode {s t : State} {k : Token} (h : exec k.toInstr s = .next t) (hopen : s.st ≠ .idle)
    (hk : k = .eos ∨ k = .ioerr) : t.st = .idle := by
  rcases hk with rfl | rfl <;> rw [State.endDecode_of_open h hopen, State.complete_st]

/-- With nothing but tokens offered, a step of an open decode takes the head of the channel (R51, R210). -/
theorem step_token_of_open {s : State} {k : Token} {rest : List Token} (hinv : s.Inv) (hopen : s.st ≠ .idle)
    (hhost : s.onlyChannel) (hchan : s.chan = k :: rest) :
    ∃ t, step s = .next t ∧ exec k.toInstr s = .next t ∧ t.onlyChannel ∧ t.chan = rest := by
  obtain ⟨hreq, hreset, hsched⟩ := hhost
  have hdeliver : s.deliver = .ok s := by simp [State.deliver, hsched]
  obtain ⟨t, hexec⟩ := hinv.exec_next k.toInstr
  obtain ⟨-, hreq', hreset', hsched'⟩ := exec_token_sameHost hexec
  refine ⟨t, ?_, hexec, ⟨hreq'.trans hreq, hreset'.trans hreset, hsched'.trans hsched⟩, ?_⟩
  · rw [step_of_selected hinv hdeliver (State.selected_of_token hreset (fun _ => hreq) hchan), hexec]
  · rw [exec_token_chan_of_open hexec hopen, hchan, List.tail_cons]

/-- Settles O35, by induction on the channel: the head ends the decode, or it is a byte and the error token is still
ahead. -/
theorem decodeCompletesByEndOfStream : Obligations.DecodeCompletesByEndOfStream := by
  intro s hinv hopen hhost herror
  generalize hchan : s.chan = tokens at herror
  induction tokens generalizing s with
  | nil => simp at herror
  | cons k rest ih =>
    obtain ⟨t, hstep, hexec, hthost, htchan⟩ := step_token_of_open hinv hopen hhost hchan
    by_cases hidle : t.st = .idle
    · obtain ⟨hvalid, -⟩ := exec_token_ends_decode hexec hopen hidle
      exact ⟨1, t, by simp, runSteps_succ hstep, hidle, hvalid⟩
    · have hbyte : ¬ (k = .eos ∨ k = .ioerr) := mt (exec_error_token_ends_decode hexec hopen) hidle
      obtain ⟨heos, hioerr⟩ := not_or.mp hbyte
      have hahead : .eos ∈ rest ∨ .ioerr ∈ rest := by simpa [Ne.symm heos, Ne.symm hioerr] using herror
      obtain ⟨n, v, hn, hrun, hdone⟩ := ih t (hinv.of_step hstep) hidle hthost htchan hahead
      exact ⟨n + 1, v, by simpa [htchan] using hn, (runSteps_succ hstep).trans hrun, hdone⟩

end Sys2Proof.Machine

/-! ### Completions (R206) -/

namespace Sys2Proof.Machine

/-- A token that ends an open decode does so by the completion of its kind, in the step that takes it (R140, R201, R202). -/
theorem exec_token_eq_completion {s t : State} {k : Token} (h : exec k.toInstr s = .next t) (hopen : s.st ≠ .idle)
    (hidle : t.st = .idle) :
    (k = .ioerr ∧ t = s.take.took.complete .io) ∨ (k = .eos ∧ t = s.take.took.complete .truncated) ∨
      ∃ d, k = .byte d ∧ t = s.acceptFrame d := by
  cases k with
  | byte d =>
    obtain ⟨-, -, -, rfl⟩ := execByte_ends_decode h hopen hidle
    exact .inr (.inr ⟨d, rfl, rfl⟩)
  | eos => exact .inr (.inl ⟨rfl, State.endDecode_of_open h hopen⟩)
  | ioerr => exact .inl ⟨rfl, State.endDecode_of_open h hopen⟩

/-- An accepted frame writes `buf[6]` and no other entry (R140). -/
theorem State.acceptFrame_buf_getElem (s : State) (d : Byte) (i : Nat) (h : i < 7) :
    (s.acceptFrame d).buf[i] = if i = 6 then some d else s.buf[i] :=
  State.bufWrite_getElem s.take.took 6 d i h

/-- `REQ` makes no result appear (R160). -/
theorem execReq_resValid {s t : State} (h : execReq s = .next t) (hno : s.resValid = false) : t.resValid = false := by
  rcases execReq_next h with ⟨-, rfl⟩ | ⟨-, rfl⟩
  · rfl
  · exact hno

/-- A token makes a result appear only while a decode is open (R52). -/
theorem State.st_ne_idle_of_token_result {s t : State} {k : Token} (h : exec k.toInstr s = .next t)
    (hno : s.resValid = false) (hvalid : t.resValid = true) : s.st ≠ .idle := by
  intro hst
  rw [exec_token_of_idle hst] at h
  obtain rfl := Host.Outcome.next.inj h
  simp [hno] at hvalid

/-- A step in which a result appears runs the token at the head of the channel, in an open decode (R206). -/
theorem step_result_runs_token {s t : State} (h : step s = .next t) (hno : s.resValid = false)
    (hvalid : t.resValid = true) :
    ∃ u k rest, s.deliver = .ok u ∧ u.st ≠ .idle ∧ u.chan = k :: rest ∧ exec k.toInstr u = .next t := by
  obtain ⟨-, u, hdeliver, hcase⟩ := step_next h
  obtain ⟨-, -, -, -, -, hkept, -⟩ := State.deliver_sameRegisters hdeliver
  have huno : u.resValid = false := hkept.trans hno
  rcases hcase with ⟨-, rfl⟩ | ⟨i, hselected, hexec⟩
  · simp [huno] at hvalid
  · rcases State.selected_some hselected with ⟨-, rfl⟩ | ⟨-, -, rfl, -⟩ | ⟨-, -, k, rest, hchan, rfl⟩
    · obtain rfl := execReset_next hexec
      cases hvalid
    · simp [execReq_resValid hexec huno] at hvalid
    · exact ⟨u, k, rest, hdeliver, State.st_ne_idle_of_token_result hexec huno hvalid, hchan, hexec⟩

/-- Settles O38: R26 (e) has the result in `IDLE`, so the token that the step runs ends the decode, by one of the three
completions. -/
theorem completionIsPrecise : Obligations.CompletionIsPrecise := by
  intro s t h hno hvalid
  obtain ⟨(hinv : s.Inv), -⟩ := step_next h
  obtain ⟨u, k, rest, hdeliver, hopen, hchan, hexec⟩ := step_result_runs_token h hno hvalid
  obtain ⟨-, -, -, -, hbuf, -⟩ := State.deliver_sameRegisters hdeliver
  obtain ⟨hidle, -⟩ := (hinv.of_step h).result_closed hvalid
  have hhead : u.chan = k :: t.chan := by rw [exec_token_chan_of_open hexec hopen, hchan, List.tail_cons]
  have hhost : sameHost u t := exec_token_sameHost hexec
  rcases exec_token_eq_completion hexec hopen hidle with ⟨rfl, rfl⟩ | ⟨rfl, rfl⟩ | ⟨d, rfl, rfl⟩
  · exact ⟨rfl, rfl, rfl, rfl, rfl, rfl, rfl, u, _, hdeliver, hhead, hhost, .inl ⟨rfl, rfl, hbuf⟩⟩
  · exact ⟨rfl, rfl, rfl, rfl, rfl, rfl, rfl, u, _, hdeliver, hhead, hhost, .inr (.inl ⟨rfl, rfl, hbuf⟩)⟩
  · exact ⟨rfl, rfl, rfl, rfl, rfl, rfl, rfl, u, _, hdeliver, hhead, hhost, .inr (.inr ⟨d, rfl, rfl, fun i hi => by
      rw [State.acceptFrame_buf_getElem, hbuf]⟩)⟩

end Sys2Proof.Machine

/-! ### RESET (R240) -/

namespace Sys2Proof.Machine

/-- `RESET` answers a next state from every state, also from one that breaks R26 (R240). -/
theorem exec_reset (s : State) : exec .reset s = .next s.took.takeReset.resetRegisters := rfl

/-- Settles O39: RESET's meaning has no condition on the state, and a step's selection puts an offered RESET first. -/
theorem resetTakenInEveryState : Obligations.ResetTakenInEveryState :=
  ⟨exec_reset, fun _ _ hinv hdeliver hreset => step_of_selected hinv hdeliver (State.selected_of_reset hreset)⟩

/-- Settles O50: RESET writes the registers, the strobe, the answer and its own port, and nothing else. -/
theorem resetFrame : Obligations.ResetFrame := by
  intro s t h
  obtain rfl := execReset_next h
  exact ⟨rfl, rfl, rfl, rfl⟩

end Sys2Proof.Machine

/-! ### A byte with a line error (D26, I19) -/

namespace Sys2Proof.Machine

/-- A single move of the host, alone in its entry of the schedule, is all that reaches the ports (log entry 6). -/
theorem State.deliver_single_move {s : State} {m : HostMove} {rest : List (List HostMove)}
    (h : s.schedule = [m] :: rest) : s.deliver = { s with schedule := rest }.arrive m := by
  simp only [State.deliver, h, State.arriveAll]
  cases { s with schedule := rest }.arrive m <;> rfl

/-- A byte with a line error puts the tokens of the open policy at the channel's end (log entry 9). -/
theorem State.arrive_lineError (s : State) (d : Byte) :
    s.arrive (.lineError d) = .ok { s with chan := s.chan ++ lineErrorTokens Config.lineErrorPolicy d } := rfl

/-- Settles O53: each policy names its tokens, and the line error alone in its entry is the one move before the step. -/
theorem lineErrorTokens_spec : Obligations.LineErrorTokens := by
  refine ⟨fun d => ⟨rfl, rfl, rfl⟩, fun s d rest hschedule => ?_⟩
  rw [State.deliver_single_move hschedule, State.arrive_lineError]

end Sys2Proof.Machine
